-- ==== Sys2Proof/Word.lean ====
section
/-! DEFINITION. The two word types of the CORE: the u8 and the u16 of 00_scope.md rules R6 and R10. -/

namespace Sys2Proof

/-- A u8: a general register, a memory byte, an operand byte. -/
abbrev Byte := BitVec 8

/-- A u16: SP, PC, a register pair, an address. -/
abbrev Word := BitVec 16

end Sys2Proof
end

