-- ==== Sys2Proof/Machine/Bits.lean ====
section
/-! DEFINITION. Byte order, extension and field helpers: 00_scope.md rule R11 and 30_encoding.md rule R102. -/

namespace Sys2Proof

/-- `h : l`, the concatenation of R11: the first byte is the high one. -/
def Bits.join (h l : Byte) : Word := h ++ l

/-- `v[15:8]`. -/
def Bits.hi (v : Word) : Byte := v.extractLsb' 8 8

/-- `v[7:0]`. -/
def Bits.lo (v : Word) : Byte := v.extractLsb' 0 8

/-- `sext_16(b)`: two's-complement sign extension (R11). -/
def Bits.sext16 (b : Byte) : Word := b.signExtend 16

/-- `sint_8(b)`: the signed value of a byte (R11). -/
def Bits.sint8 (b : Byte) : Int := b.toInt

/-- `zext_16(b)`. -/
def Bits.zext16 (b : Byte) : Word := b.setWidth 16

/-- Field x of an opcode byte, bits 7..6 (R102). -/
def Bits.fieldX (o : Byte) : Nat := o.toNat / 64

/-- Field y of an opcode byte, bits 5..3 (R102). -/
def Bits.fieldY (o : Byte) : Fin 8 := Fin.ofNat 8 (o.toNat / 8)

/-- Field z of an opcode byte, bits 2..0 (R102). -/
def Bits.fieldZ (o : Byte) : Fin 8 := Fin.ofNat 8 o.toNat

end Sys2Proof
end

