-- ==== Sys2Proof/Config.lean ====
section
/-! DEFINITION. The named parameters of 00_scope.md rule R7. All of them but INT_HOOK and ROM form the structure `Config` that
a state carries and no step changes (log entries 1 and 2): the numeric ones `Params`, the behaviour switches beside them.
INT_HOOK is an argument of the step (log entry 6), ROM a field of the state (log entry 4). The cartridge-type table, which the
spec leaves OPEN, is an opaque constant (log entry 5). -/

namespace Sys2Proof

/-- ADDR_OVERFLOW (R7, R14). -/
inductive AddrOverflow where
  | wrap
  | fault
  deriving DecidableEq, Repr

/-- ROM_WRITE (R7; 20_memory.md R64). -/
inductive RomWrite where
  | ignore
  | fault
  deriving DecidableEq, Repr

/-- EI_DELAY (R7; 40_engine.md R142): the number of instructions between EI and IME = 1. -/
inductive EiDelay where
  | zero
  | one
  deriving DecidableEq, Repr

/-- STOP_POLICY (R7; 40_engine.md R140). -/
inductive StopPolicy where
  | refuse
  | nop
  deriving DecidableEq, Repr

/-- RESET_REGS: the power-on register vector. -/
structure ResetRegs where
  a : Byte
  f : Byte
  b : Byte
  c : Byte
  d : Byte
  e : Byte
  h : Byte
  l : Byte
  sp : Word
  pc : Word
  deriving DecidableEq, Repr

/-- The numeric parameters of R7. -/
structure Params where
  /-- IE_ADDR. -/
  ieAddr : Word
  /-- IF_ADDR. -/
  ifAddr : Word
  /-- LY_ADDR. -/
  lyAddr : Word
  /-- PPU_VBLANK_FIRST (60_exceptions.md R361). -/
  ppuVblankFirst : Nat
  /-- PPU_VBLANK_LAST (60_exceptions.md R361). -/
  ppuVblankLast : Nat
  /-- PPU_OAM_STEPS (60_exceptions.md R361). -/
  ppuOamSteps : Nat
  /-- PPU_VRAM_STEPS (60_exceptions.md R361). -/
  ppuVramSteps : Nat
  /-- RESET_REGS. -/
  resetRegs : ResetRegs
  /-- IO_DEFAULTS (70_reset_and_hazards.md R392): addresses and values, in the order in which reset writes them. -/
  ioDefaults : List (Nat × Byte)
  /-- ROM_WINDOW_END. -/
  romWindowEnd : Word
  /-- WRAM_BASE. -/
  wramBase : Word
  /-- WRAM_LEN. -/
  wramLen : Nat
  /-- ECHO_BASE. -/
  echoBase : Word
  /-- ECHO_LEN. -/
  echoLen : Nat
  deriving DecidableEq, Repr

/-- The parameters of R7, fixed for a run. IMPLEMENTED (30_encoding.md R115) is given by its complement: the primary opcodes and
the 0xCB sub-opcodes that the decoder does NOT map besides the eleven unassigned bytes. -/
structure Config where
  params : Params
  addrOverflow : AddrOverflow
  romWrite : RomWrite
  eiDelay : EiDelay
  stopPolicy : StopPolicy
  unimplemented : List Byte
  unimplementedCb : List Byte
  deriving DecidableEq, Repr

/-- The default of RESET_REGS. -/
def ResetRegs.defaults : ResetRegs where
  a := 0x01
  f := 0xB0
  b := 0x00
  c := 0x13
  d := 0x00
  e := 0xD8
  h := 0x01
  l := 0x4D
  sp := 0xFFFE
  pc := 0x0100

/-- The default of IO_DEFAULTS: the timer and sound entries of the table of 70_reset_and_hazards.md R392. -/
def Params.soundDefaults : List (Nat × Byte) :=
  [(0xFF05, 0x00), (0xFF06, 0x00), (0xFF07, 0x00), (0xFF10, 0x80), (0xFF11, 0xBF), (0xFF12, 0xF3), (0xFF14, 0xBF),
   (0xFF16, 0x3F), (0xFF17, 0x00), (0xFF19, 0xBF), (0xFF1A, 0x7F), (0xFF1B, 0xFF), (0xFF1C, 0x9F), (0xFF1E, 0xBF),
   (0xFF20, 0xFF), (0xFF21, 0x00), (0xFF22, 0x00), (0xFF23, 0xBF), (0xFF24, 0x77), (0xFF25, 0xF3), (0xFF26, 0xF1)]

/-- The default of IO_DEFAULTS: the LCD, palette and IE entries of the table of 70_reset_and_hazards.md R392. -/
def Params.lcdDefaults : List (Nat × Byte) :=
  [(0xFF40, 0x91), (0xFF42, 0x00), (0xFF43, 0x00), (0xFF45, 0x00), (0xFF47, 0xFC), (0xFF48, 0xFF), (0xFF49, 0xFF),
   (0xFF4A, 0x00), (0xFF4B, 0x00), (0xFFFF, 0x00)]

/-- The defaults of R7. -/
def Params.defaults : Params where
  ieAddr := 0xFFFF
  ifAddr := 0xFF0F
  lyAddr := 0xFF44
  ppuVblankFirst := 144
  ppuVblankLast := 153
  ppuOamSteps := 200
  ppuVramSteps := 200
  resetRegs := ResetRegs.defaults
  ioDefaults := Params.soundDefaults ++ Params.lcdDefaults
  romWindowEnd := 0x7FFF
  wramBase := 0xC000
  wramLen := 0x2000
  echoBase := 0xE000
  echoLen := 0x1E00

/-- An address of the two ranges that mirror each other (20_memory.md R65). -/
abbrev Params.Echoed (p : Params) (a : Nat) : Prop :=
  (p.wramBase.toNat ≤ a ∧ a < p.wramBase.toNat + p.echoLen) ∨ (p.echoBase.toNat ≤ a ∧ a < p.echoBase.toNat + p.echoLen)

/-- Parameter values at which the invariants of the spec hold, the defaults among them (log entry 26): the ROM window, the RAM
and its echo apart and inside the address space, the echo no longer than the RAM; LY and the reset block outside the mirrored
ranges (20_memory.md R79; 60_exceptions.md R367); the scanlines in order and in a byte, no PPU mode of no steps; the reset
value of F with bits 3..0 zero (10_state.md R27). -/
abbrev Params.Legal (p : Params) : Prop :=
  p.romWindowEnd.toNat < p.wramBase.toNat ∧ p.echoLen ≤ p.wramLen ∧ p.wramBase.toNat + p.wramLen ≤ p.echoBase.toNat ∧
    p.echoBase.toNat + p.echoLen ≤ 65536 ∧ ¬p.Echoed p.lyAddr.toNat ∧ (∀ entry ∈ p.ioDefaults, ¬p.Echoed entry.1) ∧
    0 < p.ppuVblankFirst ∧ p.ppuVblankFirst ≤ p.ppuVblankLast ∧ p.ppuVblankLast ≤ 255 ∧ 0 < p.ppuOamSteps ∧
    0 < p.ppuVramSteps ∧ p.resetRegs.f &&& 0x0F = 0

namespace Config

/-- The defaults of R7: every numeric parameter at its default, wrap, ignore, 1, refuse, every defined opcode. -/
def defaults : Config where
  params := Params.defaults
  addrOverflow := .wrap
  romWrite := .ignore
  eiDelay := .one
  stopPolicy := .refuse
  unimplemented := []
  unimplementedCb := []

/-- The least length of a cartridge image (20_memory.md R76), no parameter of R7. -/
def minRomLength : Nat := 0x8000
/-- The offset of the cartridge-type byte (20_memory.md R76), no parameter of R7. -/
def cartTypeOffset : Nat := 0x0147

/-- CART_TYPES, left OPEN by the spec (00_scope.md R7; 92_eei_decisions.md D6): which cartridge-type bytes are known, and the
capability string of each. No body, so no proof can rest on an entry (log entry 5). -/
opaque cartTypes : Byte → Option String

end Config

end Sys2Proof
end

