-- ==== Sys2Proof/Machine/State.lean ====
section
/-! DEFINITION. The state of the CORE as plain data (10_state.md), the reasons a run stops (60_exceptions.md R340), and the
state right after reset (70_reset_and_hazards.md R391). -/

namespace Sys2Proof.Machine

/-- The step faults of 60_exceptions.md R340, codes 1 to 5. A step that raises one ANSWERS A NEXT STATE in which the fault is
recorded (R347); a step FROM a state with a recorded fault answers `Host.Outcome.fault` of it, since such a state has no step
(40_engine.md R130). Safe: the spec's machine has no step there either. -/
inductive Fault where
  /-- Code 1. Raised by `State.addr16` when ADDR_OVERFLOW = fault and a computed address leaves 0..0xFFFF (R341). Safe. -/
  | addressRange (a : Int)
  /-- Code 2. Raised at decode for the eleven unassigned opcodes and for an opcode outside IMPLEMENTED (R342). Safe. -/
  | unmappedOpcode (op : Byte) (addr : Word)
  /-- Code 3. Raised by the generic register accessors for an unknown identifier (R343); no instruction reaches it. Safe. -/
  | unknownRegister (name : String)
  /-- Code 4. Raised by STOP under STOP_POLICY = refuse and by HALT in the HALT-bug case (R344). Safe: a refusal of the spec's. -/
  | unmodelled (op : Byte) (addr : Word)
  /-- Code 5. Raised by a store into the ROM window when ROM_WRITE = fault (R346). Safe. -/
  | romWrite (a : Word) (v : Byte)
  deriving DecidableEq, Repr

/-- Why a cartridge image is refused at load (60_exceptions.md R345). -/
inductive CartridgeReason where
  /-- The image is shorter than 0x8000 bytes. -/
  | shortImage (length : Nat)
  /-- The cartridge-type byte is not in CART_TYPES. -/
  | unknownType (type : Byte)
  deriving DecidableEq, Repr

/-- What the model refuses. -/
inductive Refusal where
  /-- An instruction without a meaning: raised by no arm of `exec`, kept for the interface. Safe. -/
  | notModelled (mnemonic : String)
  /-- Code 6 of R340: raised by `hostLoad` only, before any run starts (R345). Safe: no machine state exists for such a load. -/
  | cartridgeFormat (reason : CartridgeReason)
  /-- Raised by `hostLoad` only, after the first reset: a reload has no move (70_reset_and_hazards.md R403; log entry 25). Safe:
  the spec's machine has none either. -/
  | loadAfterReset
  /-- Raised by `hostReset` only, before a cartridge is loaded: reset may be invoked after the load (70_reset_and_hazards.md R390,
  R403; log entry 27). Safe: the spec gives such a reset no effect. -/
  | resetBeforeLoad
  deriving DecidableEq, Repr

/-- How far the host's launch has come: load, then reset, then steps (70_reset_and_hazards.md R394, R403; log entry 25). -/
inductive Launch where
  /-- No cartridge is loaded yet. -/
  | unloaded
  /-- A cartridge is loaded and the machine has not been reset. -/
  | loaded
  /-- The first reset has happened, so the cartridge is fixed for the run. -/
  | reset
  deriving DecidableEq, Repr

/-- The PPU's mode (10_state.md R35). -/
inductive PpuMode where
  | hblank
  | vblank
  | oamRead
  | oamVramRead
  deriving DecidableEq, Repr

/-- Bytes by address, in canonical form: addresses strictly rising, no entry equal to what an unlisted address reads as. -/
abbrev Mem := List Host.Cell

/-- The whole state (10_state.md section 1), with the configuration a run is fixed to. -/
structure State where
  /-- The accumulator (R20). -/
  a : Byte
  /-- The flags register (R20, R26). -/
  f : Byte
  b : Byte
  c : Byte
  d : Byte
  e : Byte
  h : Byte
  l : Byte
  /-- The stack pointer (R23). -/
  sp : Word
  /-- The program counter (R24). -/
  pc : Word
  /-- The master interrupt enable (R32). -/
  ime : Bool
  /-- An EI has executed and IME will be set at the end of the next executed instruction (R33). -/
  eiPending : Bool
  /-- The CPU waits for an enabled pending interrupt (R34). -/
  halted : Bool
  /-- The backing buffer of the memory bus (R39), memory-mapped registers included (R40, R41). -/
  mem : Mem
  /-- The PPU's mode (R35). -/
  ppuMode : PpuMode
  /-- The PPU's scanline counter (R36). -/
  ppuLy : Nat
  /-- The PPU's sub-cycle counter (R37). -/
  ppuSub : Nat
  /-- The first fatal error of the run (R38). -/
  fault : Option Fault
  /-- The cartridge image (20_memory.md R61, R76): configuration in the spec's words, never changed by a step (log entry 4). -/
  rom : Mem
  /-- The capability string of the loaded cartridge's type byte, none before a load (20_memory.md R76; log entry 5). -/
  bankMode : Option String
  /-- How far the host's launch has come: the model's own field for the order of R394 and R403, read and written by the host's
  load and reset alone (log entry 25). -/
  launch : Launch
  /-- The parameters of 00_scope.md R7, fixed for a run (log entries 1 and 2). -/
  cfg : Config
  deriving DecidableEq, Repr

/-- The reset state of 70_reset_and_hazards.md R391 at a configuration, with an all-zero cartridge image (DESIGN CHOICE, log
entry 4). No memory byte is listed: an unlisted byte reads as its reset value, 0x00 or its IO_DEFAULTS value (R390, R392; log
entry 7). -/
def State.resetAt (cfg : Config) : State where
  a := cfg.params.resetRegs.a
  f := cfg.params.resetRegs.f
  b := cfg.params.resetRegs.b
  c := cfg.params.resetRegs.c
  d := cfg.params.resetRegs.d
  e := cfg.params.resetRegs.e
  h := cfg.params.resetRegs.h
  l := cfg.params.resetRegs.l
  sp := cfg.params.resetRegs.sp
  pc := cfg.params.resetRegs.pc
  ime := false
  eiPending := false
  halted := false
  mem := []
  ppuMode := .hblank
  ppuLy := 0
  ppuSub := 0
  fault := none
  rom := []
  bankMode := none
  launch := .reset
  cfg := cfg

/-- The machine right after reset (R391), at the defaults of 00_scope.md R7. -/
def State.reset : State := State.resetAt Config.defaults

end Sys2Proof.Machine
end

