-- ==== Sys2Proof/Syntax.lean ====
section
/-! DEFINITION. The names of operands (30_encoding.md R103) and the ONE inductive of instructions: one constructor per row of
spec/opcode_table.json, those with operand bytes first, each group in the table's order (the eleven ILLEGAL rows share one
constructor that keeps the opcode byte).
An operand byte or word is kept as it is encoded; a displacement e is its raw byte. -/

namespace Sys2Proof

/-- The 8-bit registers of the r8 table. -/
inductive R8 where
  | b
  | c
  | d
  | e
  | h
  | l
  | a
  deriving DecidableEq, Repr

/-- The rp table. -/
inductive Pair where
  | bc
  | de
  | hl
  | sp
  deriving DecidableEq, Repr

/-- The rp2 table, of PUSH and POP. -/
inductive StackPair where
  | bc
  | de
  | hl
  | af
  deriving DecidableEq, Repr

/-- The cc table. -/
inductive Cond where
  | nz
  | z
  | nc
  | c
  deriving DecidableEq, Repr

/-- The alu table. -/
inductive AluOp where
  | add
  | adc
  | sub
  | sbc
  | and
  | xor
  | or
  | cp
  deriving DecidableEq, Repr

/-- The rot table. -/
inductive ShiftOp where
  | rlc
  | rrc
  | rl
  | rr
  | sla
  | sra
  | swap
  | srl
  deriving DecidableEq, Repr

/-- The instructions. -/
inductive Instr where
  /-- LD BC,nn (R191). -/
  | ldBcNn (nn : Word)
  /-- LD B,n (R161). -/
  | ldBN (n : Byte)
  /-- LD (nn),SP (R192). -/
  | ldMemNnSp (nn : Word)
  /-- LD C,n (R161). -/
  | ldCN (n : Byte)
  /-- STOP (R140). -/
  | stop (n : Byte)
  /-- LD DE,nn (R191). -/
  | ldDeNn (nn : Word)
  /-- LD D,n (R161). -/
  | ldDN (n : Byte)
  /-- JR e (R314). -/
  | jrE (e : Byte)
  /-- LD E,n (R161). -/
  | ldEN (n : Byte)
  /-- JR NZ,e (R315). -/
  | jrNzE (e : Byte)
  /-- LD HL,nn (R191). -/
  | ldHlNn (nn : Word)
  /-- LD H,n (R161). -/
  | ldHN (n : Byte)
  /-- JR Z,e (R315). -/
  | jrZE (e : Byte)
  /-- LD L,n (R161). -/
  | ldLN (n : Byte)
  /-- JR NC,e (R315). -/
  | jrNcE (e : Byte)
  /-- LD SP,nn (R191). -/
  | ldSpNn (nn : Word)
  /-- LD (HL),n (R164). -/
  | ldMemHlN (n : Byte)
  /-- JR C,e (R315). -/
  | jrCE (e : Byte)
  /-- LD A,n (R161). -/
  | ldAN (n : Byte)
  /-- JP NZ,nn (R312). -/
  | jpNzNn (nn : Word)
  /-- JP nn (R311). -/
  | jpNn (nn : Word)
  /-- CALL NZ,nn (R317). -/
  | callNzNn (nn : Word)
  /-- ADD A,n (R213). -/
  | addAN (n : Byte)
  /-- JP Z,nn (R312). -/
  | jpZNn (nn : Word)
  /-- PREFIX CB (R143). -/
  | prefixCb (sub : Byte)
  /-- CALL Z,nn (R317). -/
  | callZNn (nn : Word)
  /-- CALL nn (R316). -/
  | callNn (nn : Word)
  /-- ADC A,n (R216). -/
  | adcAN (n : Byte)
  /-- JP NC,nn (R312). -/
  | jpNcNn (nn : Word)
  /-- ILLEGAL (R144). -/
  | illegal (op : Byte)
  /-- CALL NC,nn (R317). -/
  | callNcNn (nn : Word)
  /-- SUB n (R219). -/
  | subN (n : Byte)
  /-- JP C,nn (R312). -/
  | jpCNn (nn : Word)
  /-- CALL C,nn (R317). -/
  | callCNn (nn : Word)
  /-- SBC A,n (R222). -/
  | sbcAN (n : Byte)
  /-- LDH (n),A (R172). -/
  | ldhMemNA (n : Byte)
  /-- AND n (R225). -/
  | andN (n : Byte)
  /-- ADD SP,e (R263). -/
  | addSpE (e : Byte)
  /-- LD (nn),A (R170). -/
  | ldMemNnA (nn : Word)
  /-- XOR n (R228). -/
  | xorN (n : Byte)
  /-- LDH A,(n) (R171). -/
  | ldhAMemN (n : Byte)
  /-- OR n (R231). -/
  | orN (n : Byte)
  /-- LD HL,SP+e (R194). -/
  | ldHlSpE (e : Byte)
  /-- LD A,(nn) (R169). -/
  | ldAMemNn (nn : Word)
  /-- CP n (R234). -/
  | cpN (n : Byte)
  /-- NOP (R137). -/
  | nop
  /-- LD (BC),A (R167). -/
  | ldMemBcA
  /-- INC BC (R260). -/
  | incBc
  /-- INC B (R235). -/
  | incB
  /-- DEC B (R237). -/
  | decB
  /-- RLCA (R275). -/
  | rlca
  /-- ADD HL,BC (R262). -/
  | addHlBc
  /-- LD A,(BC) (R165). -/
  | ldAMemBc
  /-- DEC BC (R261). -/
  | decBc
  /-- INC C (R235). -/
  | incC
  /-- DEC C (R237). -/
  | decC
  /-- RRCA (R276). -/
  | rrca
  /-- LD (DE),A (R168). -/
  | ldMemDeA
  /-- INC DE (R260). -/
  | incDe
  /-- INC D (R235). -/
  | incD
  /-- DEC D (R237). -/
  | decD
  /-- RLA (R277). -/
  | rla
  /-- ADD HL,DE (R262). -/
  | addHlDe
  /-- LD A,(DE) (R166). -/
  | ldAMemDe
  /-- DEC DE (R261). -/
  | decDe
  /-- INC E (R235). -/
  | incE
  /-- DEC E (R237). -/
  | decE
  /-- RRA (R278). -/
  | rra
  /-- LD (HL+),A (R175). -/
  | ldMemHlIncA
  /-- INC HL (R260). -/
  | incHl
  /-- INC H (R235). -/
  | incH
  /-- DEC H (R237). -/
  | decH
  /-- DAA (R239). -/
  | daa
  /-- ADD HL,HL (R262). -/
  | addHlHl
  /-- LD A,(HL+) (R176). -/
  | ldAMemHlInc
  /-- DEC HL (R261). -/
  | decHl
  /-- INC L (R235). -/
  | incL
  /-- DEC L (R237). -/
  | decL
  /-- CPL (R240). -/
  | cpl
  /-- LD (HL-),A (R177). -/
  | ldMemHlDecA
  /-- INC SP (R260). -/
  | incSp
  /-- INC (HL) (R236). -/
  | incMemHl
  /-- DEC (HL) (R238). -/
  | decMemHl
  /-- SCF (R241). -/
  | scf
  /-- ADD HL,SP (R262). -/
  | addHlSp
  /-- LD A,(HL-) (R178). -/
  | ldAMemHlDec
  /-- DEC SP (R261). -/
  | decSp
  /-- INC A (R235). -/
  | incA
  /-- DEC A (R237). -/
  | decA
  /-- CCF (R242). -/
  | ccf
  /-- LD B,B (R160). -/
  | ldBB
  /-- LD B,C (R160). -/
  | ldBC
  /-- LD B,D (R160). -/
  | ldBD
  /-- LD B,E (R160). -/
  | ldBE
  /-- LD B,H (R160). -/
  | ldBH
  /-- LD B,L (R160). -/
  | ldBL
  /-- LD B,(HL) (R162). -/
  | ldBMemHl
  /-- LD B,A (R160). -/
  | ldBA
  /-- LD C,B (R160). -/
  | ldCB
  /-- LD C,C (R160). -/
  | ldCC
  /-- LD C,D (R160). -/
  | ldCD
  /-- LD C,E (R160). -/
  | ldCE
  /-- LD C,H (R160). -/
  | ldCH
  /-- LD C,L (R160). -/
  | ldCL
  /-- LD C,(HL) (R162). -/
  | ldCMemHl
  /-- LD C,A (R160). -/
  | ldCA
  /-- LD D,B (R160). -/
  | ldDB
  /-- LD D,C (R160). -/
  | ldDC
  /-- LD D,D (R160). -/
  | ldDD
  /-- LD D,E (R160). -/
  | ldDE
  /-- LD D,H (R160). -/
  | ldDH
  /-- LD D,L (R160). -/
  | ldDL
  /-- LD D,(HL) (R162). -/
  | ldDMemHl
  /-- LD D,A (R160). -/
  | ldDA
  /-- LD E,B (R160). -/
  | ldEB
  /-- LD E,C (R160). -/
  | ldEC
  /-- LD E,D (R160). -/
  | ldED
  /-- LD E,E (R160). -/
  | ldEE
  /-- LD E,H (R160). -/
  | ldEH
  /-- LD E,L (R160). -/
  | ldEL
  /-- LD E,(HL) (R162). -/
  | ldEMemHl
  /-- LD E,A (R160). -/
  | ldEA
  /-- LD H,B (R160). -/
  | ldHB
  /-- LD H,C (R160). -/
  | ldHC
  /-- LD H,D (R160). -/
  | ldHD
  /-- LD H,E (R160). -/
  | ldHE
  /-- LD H,H (R160). -/
  | ldHH
  /-- LD H,L (R160). -/
  | ldHL
  /-- LD H,(HL) (R162). -/
  | ldHMemHl
  /-- LD H,A (R160). -/
  | ldHA
  /-- LD L,B (R160). -/
  | ldLB
  /-- LD L,C (R160). -/
  | ldLC
  /-- LD L,D (R160). -/
  | ldLD
  /-- LD L,E (R160). -/
  | ldLE
  /-- LD L,H (R160). -/
  | ldLH
  /-- LD L,L (R160). -/
  | ldLL
  /-- LD L,(HL) (R162). -/
  | ldLMemHl
  /-- LD L,A (R160). -/
  | ldLA
  /-- LD (HL),B (R163). -/
  | ldMemHlB
  /-- LD (HL),C (R163). -/
  | ldMemHlC
  /-- LD (HL),D (R163). -/
  | ldMemHlD
  /-- LD (HL),E (R163). -/
  | ldMemHlE
  /-- LD (HL),H (R163). -/
  | ldMemHlH
  /-- LD (HL),L (R163). -/
  | ldMemHlL
  /-- HALT (R138). -/
  | halt
  /-- LD (HL),A (R163). -/
  | ldMemHlA
  /-- LD A,B (R160). -/
  | ldAB
  /-- LD A,C (R160). -/
  | ldAC
  /-- LD A,D (R160). -/
  | ldAD
  /-- LD A,E (R160). -/
  | ldAE
  /-- LD A,H (R160). -/
  | ldAH
  /-- LD A,L (R160). -/
  | ldAL
  /-- LD A,(HL) (R162). -/
  | ldAMemHl
  /-- LD A,A (R160). -/
  | ldAA
  /-- ADD A,B (R211). -/
  | addAB
  /-- ADD A,C (R211). -/
  | addAC
  /-- ADD A,D (R211). -/
  | addAD
  /-- ADD A,E (R211). -/
  | addAE
  /-- ADD A,H (R211). -/
  | addAH
  /-- ADD A,L (R211). -/
  | addAL
  /-- ADD A,(HL) (R212). -/
  | addAMemHl
  /-- ADD A,A (R211). -/
  | addAA
  /-- ADC A,B (R214). -/
  | adcAB
  /-- ADC A,C (R214). -/
  | adcAC
  /-- ADC A,D (R214). -/
  | adcAD
  /-- ADC A,E (R214). -/
  | adcAE
  /-- ADC A,H (R214). -/
  | adcAH
  /-- ADC A,L (R214). -/
  | adcAL
  /-- ADC A,(HL) (R215). -/
  | adcAMemHl
  /-- ADC A,A (R214). -/
  | adcAA
  /-- SUB B (R217). -/
  | subB
  /-- SUB C (R217). -/
  | subC
  /-- SUB D (R217). -/
  | subD
  /-- SUB E (R217). -/
  | subE
  /-- SUB H (R217). -/
  | subH
  /-- SUB L (R217). -/
  | subL
  /-- SUB (HL) (R218). -/
  | subMemHl
  /-- SUB A (R217). -/
  | subA
  /-- SBC A,B (R220). -/
  | sbcAB
  /-- SBC A,C (R220). -/
  | sbcAC
  /-- SBC A,D (R220). -/
  | sbcAD
  /-- SBC A,E (R220). -/
  | sbcAE
  /-- SBC A,H (R220). -/
  | sbcAH
  /-- SBC A,L (R220). -/
  | sbcAL
  /-- SBC A,(HL) (R221). -/
  | sbcAMemHl
  /-- SBC A,A (R220). -/
  | sbcAA
  /-- AND B (R223). -/
  | andB
  /-- AND C (R223). -/
  | andC
  /-- AND D (R223). -/
  | andD
  /-- AND E (R223). -/
  | andE
  /-- AND H (R223). -/
  | andH
  /-- AND L (R223). -/
  | andL
  /-- AND (HL) (R224). -/
  | andMemHl
  /-- AND A (R223). -/
  | andA
  /-- XOR B (R226). -/
  | xorB
  /-- XOR C (R226). -/
  | xorC
  /-- XOR D (R226). -/
  | xorD
  /-- XOR E (R226). -/
  | xorE
  /-- XOR H (R226). -/
  | xorH
  /-- XOR L (R226). -/
  | xorL
  /-- XOR (HL) (R227). -/
  | xorMemHl
  /-- XOR A (R226). -/
  | xorA
  /-- OR B (R229). -/
  | orB
  /-- OR C (R229). -/
  | orC
  /-- OR D (R229). -/
  | orD
  /-- OR E (R229). -/
  | orE
  /-- OR H (R229). -/
  | orH
  /-- OR L (R229). -/
  | orL
  /-- OR (HL) (R230). -/
  | orMemHl
  /-- OR A (R229). -/
  | orA
  /-- CP B (R232). -/
  | cpB
  /-- CP C (R232). -/
  | cpC
  /-- CP D (R232). -/
  | cpD
  /-- CP E (R232). -/
  | cpE
  /-- CP H (R232). -/
  | cpH
  /-- CP L (R232). -/
  | cpL
  /-- CP (HL) (R233). -/
  | cpMemHl
  /-- CP A (R232). -/
  | cpA
  /-- RET NZ (R319). -/
  | retNz
  /-- POP BC (R196). -/
  | popBc
  /-- PUSH BC (R195). -/
  | pushBc
  /-- RST 0x00 (R321). -/
  | rst00
  /-- RET Z (R319). -/
  | retZ
  /-- RET (R318). -/
  | ret
  /-- RST 0x08 (R321). -/
  | rst08
  /-- RET NC (R319). -/
  | retNc
  /-- POP DE (R196). -/
  | popDe
  /-- PUSH DE (R195). -/
  | pushDe
  /-- RST 0x10 (R321). -/
  | rst10
  /-- RET C (R319). -/
  | retC
  /-- RETI (R320). -/
  | reti
  /-- RST 0x18 (R321). -/
  | rst18
  /-- POP HL (R196). -/
  | popHl
  /-- LD (C),A (R174). -/
  | ldMemCA
  /-- PUSH HL (R195). -/
  | pushHl
  /-- RST 0x20 (R321). -/
  | rst20
  /-- JP HL (R313). -/
  | jpHl
  /-- RST 0x28 (R321). -/
  | rst28
  /-- POP AF (R197). -/
  | popAf
  /-- LD A,(C) (R173). -/
  | ldAMemC
  /-- DI (R141). -/
  | di
  /-- PUSH AF (R195). -/
  | pushAf
  /-- RST 0x30 (R321). -/
  | rst30
  /-- LD SP,HL (R193). -/
  | ldSpHl
  /-- EI (R142). -/
  | ei
  /-- RST 0x38 (R321). -/
  | rst38
  /-- RLC B (R280). -/
  | rlcB
  /-- RLC C (R280). -/
  | rlcC
  /-- RLC D (R280). -/
  | rlcD
  /-- RLC E (R280). -/
  | rlcE
  /-- RLC H (R280). -/
  | rlcH
  /-- RLC L (R280). -/
  | rlcL
  /-- RLC (HL) (R281). -/
  | rlcMemHl
  /-- RLC A (R280). -/
  | rlcA
  /-- RRC B (R282). -/
  | rrcB
  /-- RRC C (R282). -/
  | rrcC
  /-- RRC D (R282). -/
  | rrcD
  /-- RRC E (R282). -/
  | rrcE
  /-- RRC H (R282). -/
  | rrcH
  /-- RRC L (R282). -/
  | rrcL
  /-- RRC (HL) (R283). -/
  | rrcMemHl
  /-- RRC A (R282). -/
  | rrcA
  /-- RL B (R284). -/
  | rlB
  /-- RL C (R284). -/
  | rlC
  /-- RL D (R284). -/
  | rlD
  /-- RL E (R284). -/
  | rlE
  /-- RL H (R284). -/
  | rlH
  /-- RL L (R284). -/
  | rlL
  /-- RL (HL) (R285). -/
  | rlMemHl
  /-- RL A (R284). -/
  | rlA
  /-- RR B (R286). -/
  | rrB
  /-- RR C (R286). -/
  | rrC
  /-- RR D (R286). -/
  | rrD
  /-- RR E (R286). -/
  | rrE
  /-- RR H (R286). -/
  | rrH
  /-- RR L (R286). -/
  | rrL
  /-- RR (HL) (R287). -/
  | rrMemHl
  /-- RR A (R286). -/
  | rrA
  /-- SLA B (R288). -/
  | slaB
  /-- SLA C (R288). -/
  | slaC
  /-- SLA D (R288). -/
  | slaD
  /-- SLA E (R288). -/
  | slaE
  /-- SLA H (R288). -/
  | slaH
  /-- SLA L (R288). -/
  | slaL
  /-- SLA (HL) (R289). -/
  | slaMemHl
  /-- SLA A (R288). -/
  | slaA
  /-- SRA B (R290). -/
  | sraB
  /-- SRA C (R290). -/
  | sraC
  /-- SRA D (R290). -/
  | sraD
  /-- SRA E (R290). -/
  | sraE
  /-- SRA H (R290). -/
  | sraH
  /-- SRA L (R290). -/
  | sraL
  /-- SRA (HL) (R291). -/
  | sraMemHl
  /-- SRA A (R290). -/
  | sraA
  /-- SWAP B (R292). -/
  | swapB
  /-- SWAP C (R292). -/
  | swapC
  /-- SWAP D (R292). -/
  | swapD
  /-- SWAP E (R292). -/
  | swapE
  /-- SWAP H (R292). -/
  | swapH
  /-- SWAP L (R292). -/
  | swapL
  /-- SWAP (HL) (R293). -/
  | swapMemHl
  /-- SWAP A (R292). -/
  | swapA
  /-- SRL B (R294). -/
  | srlB
  /-- SRL C (R294). -/
  | srlC
  /-- SRL D (R294). -/
  | srlD
  /-- SRL E (R294). -/
  | srlE
  /-- SRL H (R294). -/
  | srlH
  /-- SRL L (R294). -/
  | srlL
  /-- SRL (HL) (R295). -/
  | srlMemHl
  /-- SRL A (R294). -/
  | srlA
  /-- BIT 0,B (R300). -/
  | bit0B
  /-- BIT 0,C (R300). -/
  | bit0C
  /-- BIT 0,D (R300). -/
  | bit0D
  /-- BIT 0,E (R300). -/
  | bit0E
  /-- BIT 0,H (R300). -/
  | bit0H
  /-- BIT 0,L (R300). -/
  | bit0L
  /-- BIT 0,(HL) (R301). -/
  | bit0MemHl
  /-- BIT 0,A (R300). -/
  | bit0A
  /-- BIT 1,B (R300). -/
  | bit1B
  /-- BIT 1,C (R300). -/
  | bit1C
  /-- BIT 1,D (R300). -/
  | bit1D
  /-- BIT 1,E (R300). -/
  | bit1E
  /-- BIT 1,H (R300). -/
  | bit1H
  /-- BIT 1,L (R300). -/
  | bit1L
  /-- BIT 1,(HL) (R301). -/
  | bit1MemHl
  /-- BIT 1,A (R300). -/
  | bit1A
  /-- BIT 2,B (R300). -/
  | bit2B
  /-- BIT 2,C (R300). -/
  | bit2C
  /-- BIT 2,D (R300). -/
  | bit2D
  /-- BIT 2,E (R300). -/
  | bit2E
  /-- BIT 2,H (R300). -/
  | bit2H
  /-- BIT 2,L (R300). -/
  | bit2L
  /-- BIT 2,(HL) (R301). -/
  | bit2MemHl
  /-- BIT 2,A (R300). -/
  | bit2A
  /-- BIT 3,B (R300). -/
  | bit3B
  /-- BIT 3,C (R300). -/
  | bit3C
  /-- BIT 3,D (R300). -/
  | bit3D
  /-- BIT 3,E (R300). -/
  | bit3E
  /-- BIT 3,H (R300). -/
  | bit3H
  /-- BIT 3,L (R300). -/
  | bit3L
  /-- BIT 3,(HL) (R301). -/
  | bit3MemHl
  /-- BIT 3,A (R300). -/
  | bit3A
  /-- BIT 4,B (R300). -/
  | bit4B
  /-- BIT 4,C (R300). -/
  | bit4C
  /-- BIT 4,D (R300). -/
  | bit4D
  /-- BIT 4,E (R300). -/
  | bit4E
  /-- BIT 4,H (R300). -/
  | bit4H
  /-- BIT 4,L (R300). -/
  | bit4L
  /-- BIT 4,(HL) (R301). -/
  | bit4MemHl
  /-- BIT 4,A (R300). -/
  | bit4A
  /-- BIT 5,B (R300). -/
  | bit5B
  /-- BIT 5,C (R300). -/
  | bit5C
  /-- BIT 5,D (R300). -/
  | bit5D
  /-- BIT 5,E (R300). -/
  | bit5E
  /-- BIT 5,H (R300). -/
  | bit5H
  /-- BIT 5,L (R300). -/
  | bit5L
  /-- BIT 5,(HL) (R301). -/
  | bit5MemHl
  /-- BIT 5,A (R300). -/
  | bit5A
  /-- BIT 6,B (R300). -/
  | bit6B
  /-- BIT 6,C (R300). -/
  | bit6C
  /-- BIT 6,D (R300). -/
  | bit6D
  /-- BIT 6,E (R300). -/
  | bit6E
  /-- BIT 6,H (R300). -/
  | bit6H
  /-- BIT 6,L (R300). -/
  | bit6L
  /-- BIT 6,(HL) (R301). -/
  | bit6MemHl
  /-- BIT 6,A (R300). -/
  | bit6A
  /-- BIT 7,B (R300). -/
  | bit7B
  /-- BIT 7,C (R300). -/
  | bit7C
  /-- BIT 7,D (R300). -/
  | bit7D
  /-- BIT 7,E (R300). -/
  | bit7E
  /-- BIT 7,H (R300). -/
  | bit7H
  /-- BIT 7,L (R300). -/
  | bit7L
  /-- BIT 7,(HL) (R301). -/
  | bit7MemHl
  /-- BIT 7,A (R300). -/
  | bit7A
  /-- RES 0,B (R302). -/
  | res0B
  /-- RES 0,C (R302). -/
  | res0C
  /-- RES 0,D (R302). -/
  | res0D
  /-- RES 0,E (R302). -/
  | res0E
  /-- RES 0,H (R302). -/
  | res0H
  /-- RES 0,L (R302). -/
  | res0L
  /-- RES 0,(HL) (R303). -/
  | res0MemHl
  /-- RES 0,A (R302). -/
  | res0A
  /-- RES 1,B (R302). -/
  | res1B
  /-- RES 1,C (R302). -/
  | res1C
  /-- RES 1,D (R302). -/
  | res1D
  /-- RES 1,E (R302). -/
  | res1E
  /-- RES 1,H (R302). -/
  | res1H
  /-- RES 1,L (R302). -/
  | res1L
  /-- RES 1,(HL) (R303). -/
  | res1MemHl
  /-- RES 1,A (R302). -/
  | res1A
  /-- RES 2,B (R302). -/
  | res2B
  /-- RES 2,C (R302). -/
  | res2C
  /-- RES 2,D (R302). -/
  | res2D
  /-- RES 2,E (R302). -/
  | res2E
  /-- RES 2,H (R302). -/
  | res2H
  /-- RES 2,L (R302). -/
  | res2L
  /-- RES 2,(HL) (R303). -/
  | res2MemHl
  /-- RES 2,A (R302). -/
  | res2A
  /-- RES 3,B (R302). -/
  | res3B
  /-- RES 3,C (R302). -/
  | res3C
  /-- RES 3,D (R302). -/
  | res3D
  /-- RES 3,E (R302). -/
  | res3E
  /-- RES 3,H (R302). -/
  | res3H
  /-- RES 3,L (R302). -/
  | res3L
  /-- RES 3,(HL) (R303). -/
  | res3MemHl
  /-- RES 3,A (R302). -/
  | res3A
  /-- RES 4,B (R302). -/
  | res4B
  /-- RES 4,C (R302). -/
  | res4C
  /-- RES 4,D (R302). -/
  | res4D
  /-- RES 4,E (R302). -/
  | res4E
  /-- RES 4,H (R302). -/
  | res4H
  /-- RES 4,L (R302). -/
  | res4L
  /-- RES 4,(HL) (R303). -/
  | res4MemHl
  /-- RES 4,A (R302). -/
  | res4A
  /-- RES 5,B (R302). -/
  | res5B
  /-- RES 5,C (R302). -/
  | res5C
  /-- RES 5,D (R302). -/
  | res5D
  /-- RES 5,E (R302). -/
  | res5E
  /-- RES 5,H (R302). -/
  | res5H
  /-- RES 5,L (R302). -/
  | res5L
  /-- RES 5,(HL) (R303). -/
  | res5MemHl
  /-- RES 5,A (R302). -/
  | res5A
  /-- RES 6,B (R302). -/
  | res6B
  /-- RES 6,C (R302). -/
  | res6C
  /-- RES 6,D (R302). -/
  | res6D
  /-- RES 6,E (R302). -/
  | res6E
  /-- RES 6,H (R302). -/
  | res6H
  /-- RES 6,L (R302). -/
  | res6L
  /-- RES 6,(HL) (R303). -/
  | res6MemHl
  /-- RES 6,A (R302). -/
  | res6A
  /-- RES 7,B (R302). -/
  | res7B
  /-- RES 7,C (R302). -/
  | res7C
  /-- RES 7,D (R302). -/
  | res7D
  /-- RES 7,E (R302). -/
  | res7E
  /-- RES 7,H (R302). -/
  | res7H
  /-- RES 7,L (R302). -/
  | res7L
  /-- RES 7,(HL) (R303). -/
  | res7MemHl
  /-- RES 7,A (R302). -/
  | res7A
  /-- SET 0,B (R304). -/
  | set0B
  /-- SET 0,C (R304). -/
  | set0C
  /-- SET 0,D (R304). -/
  | set0D
  /-- SET 0,E (R304). -/
  | set0E
  /-- SET 0,H (R304). -/
  | set0H
  /-- SET 0,L (R304). -/
  | set0L
  /-- SET 0,(HL) (R305). -/
  | set0MemHl
  /-- SET 0,A (R304). -/
  | set0A
  /-- SET 1,B (R304). -/
  | set1B
  /-- SET 1,C (R304). -/
  | set1C
  /-- SET 1,D (R304). -/
  | set1D
  /-- SET 1,E (R304). -/
  | set1E
  /-- SET 1,H (R304). -/
  | set1H
  /-- SET 1,L (R304). -/
  | set1L
  /-- SET 1,(HL) (R305). -/
  | set1MemHl
  /-- SET 1,A (R304). -/
  | set1A
  /-- SET 2,B (R304). -/
  | set2B
  /-- SET 2,C (R304). -/
  | set2C
  /-- SET 2,D (R304). -/
  | set2D
  /-- SET 2,E (R304). -/
  | set2E
  /-- SET 2,H (R304). -/
  | set2H
  /-- SET 2,L (R304). -/
  | set2L
  /-- SET 2,(HL) (R305). -/
  | set2MemHl
  /-- SET 2,A (R304). -/
  | set2A
  /-- SET 3,B (R304). -/
  | set3B
  /-- SET 3,C (R304). -/
  | set3C
  /-- SET 3,D (R304). -/
  | set3D
  /-- SET 3,E (R304). -/
  | set3E
  /-- SET 3,H (R304). -/
  | set3H
  /-- SET 3,L (R304). -/
  | set3L
  /-- SET 3,(HL) (R305). -/
  | set3MemHl
  /-- SET 3,A (R304). -/
  | set3A
  /-- SET 4,B (R304). -/
  | set4B
  /-- SET 4,C (R304). -/
  | set4C
  /-- SET 4,D (R304). -/
  | set4D
  /-- SET 4,E (R304). -/
  | set4E
  /-- SET 4,H (R304). -/
  | set4H
  /-- SET 4,L (R304). -/
  | set4L
  /-- SET 4,(HL) (R305). -/
  | set4MemHl
  /-- SET 4,A (R304). -/
  | set4A
  /-- SET 5,B (R304). -/
  | set5B
  /-- SET 5,C (R304). -/
  | set5C
  /-- SET 5,D (R304). -/
  | set5D
  /-- SET 5,E (R304). -/
  | set5E
  /-- SET 5,H (R304). -/
  | set5H
  /-- SET 5,L (R304). -/
  | set5L
  /-- SET 5,(HL) (R305). -/
  | set5MemHl
  /-- SET 5,A (R304). -/
  | set5A
  /-- SET 6,B (R304). -/
  | set6B
  /-- SET 6,C (R304). -/
  | set6C
  /-- SET 6,D (R304). -/
  | set6D
  /-- SET 6,E (R304). -/
  | set6E
  /-- SET 6,H (R304). -/
  | set6H
  /-- SET 6,L (R304). -/
  | set6L
  /-- SET 6,(HL) (R305). -/
  | set6MemHl
  /-- SET 6,A (R304). -/
  | set6A
  /-- SET 7,B (R304). -/
  | set7B
  /-- SET 7,C (R304). -/
  | set7C
  /-- SET 7,D (R304). -/
  | set7D
  /-- SET 7,E (R304). -/
  | set7E
  /-- SET 7,H (R304). -/
  | set7H
  /-- SET 7,L (R304). -/
  | set7L
  /-- SET 7,(HL) (R305). -/
  | set7MemHl
  /-- SET 7,A (R304). -/
  | set7A
  deriving DecidableEq, Repr

end Sys2Proof
end

