-- ==== Sys2Proof/Machine/Flags.lean ====
section
/-! DEFINITION. Every flag computation of the spec: the flag helpers of 00_scope.md R16 and 10_state.md R28 to R30, the
arithmetic of 43_alu8.md, 44_alu16.md and 42_load16.md R194, and the shift helper of 45_rotate_shift.md R279. -/

namespace Sys2Proof.Machine

/-- `zf(v)` for a byte (R16). -/
def zf (v : Byte) : Bool := v == 0

/-- `flags(z, n, h, c)` (R16): bits 3..0 are zero. -/
def mkFlags (z n h c : Bool) : Byte :=
  BitVec.ofNat 8 (z.toNat <<< 7 ||| n.toNat <<< 6 ||| h.toNat <<< 5 ||| c.toNat <<< 4)

/-- The predicates of R28. -/
def flagZ (f : Byte) : Bool := f.getLsbD 7
def flagN (f : Byte) : Bool := f.getLsbD 6
def flagH (f : Byte) : Bool := f.getLsbD 5
def flagC (f : Byte) : Bool := f.getLsbD 4

/-- Bit `i` of a byte replaced by `v`, the other seven kept (R28). -/
def setBit (f : Byte) (i : Nat) (v : Bool) : Byte :=
  if v then f ||| ((1 : Byte) <<< i) else f &&& (0xFF ^^^ ((1 : Byte) <<< i))

/-- The setters of R28. -/
def setZ (f : Byte) (v : Bool) : Byte := setBit f 7 v
def setN (f : Byte) (v : Bool) : Byte := setBit f 6 v
def setH (f : Byte) (v : Bool) : Byte := setBit f 5 v
def setC (f : Byte) (v : Bool) : Byte := setBit f 4 v

/-- `Inc8(v)` (10_state.md R29): the result and the new flags; Cy is kept. -/
def inc8 (v f : Byte) : Byte × Byte :=
  (v + 1, setH (setN (setZ f (zf (v + 1))) false) ((v &&& 0x0F) == 0x0F))

/-- `Dec8(v)` (10_state.md R30): the result and the new flags; Cy is kept. -/
def dec8 (v f : Byte) : Byte × Byte :=
  (v - 1, setH (setN (setZ f (zf (v - 1))) true) ((v &&& 0x0F) == 0x00))

/-- `Add8(a, v, c)` (43_alu8.md R210). -/
def add8 (a v : Byte) (c : Bool) : Byte × Byte :=
  let r := a.toNat + v.toNat + c.toNat
  let h := (a &&& 0x0F).toNat + (v &&& 0x0F).toNat + c.toNat > 0x0F
  (BitVec.ofNat 8 r, mkFlags (zf (BitVec.ofNat 8 r)) false (decide h) (decide (r > 0xFF)))

/-- `Sub8(a, v, c)` (43_alu8.md R210). -/
def sub8 (a v : Byte) (c : Bool) : Byte × Byte :=
  let r : Int := (a.toNat : Int) - v.toNat - c.toNat
  let h := (a &&& 0x0F).toNat < (v &&& 0x0F).toNat + c.toNat
  (BitVec.ofInt 8 r, mkFlags (zf (BitVec.ofInt 8 r)) true (decide h) (decide (a.toNat < v.toNat + c.toNat)))

/-- The accumulator and the flags after `alu[y] A, v`, from the flags before (43_alu8.md R211 to R234). -/
def alu (op : AluOp) (a v f : Byte) : Byte × Byte :=
  match op with
  | .add => add8 a v false
  | .adc => add8 a v (flagC f)
  | .sub => sub8 a v false
  | .sbc => sub8 a v (flagC f)
  | .and => (a &&& v, mkFlags (zf (a &&& v)) false true false)
  | .xor => (a ^^^ v, mkFlags (zf (a ^^^ v)) false false false)
  | .or => (a ||| v, mkFlags (zf (a ||| v)) false false false)
  | .cp => (a, (sub8 a v false).2)

/-- DAA's adjustment after an addition (43_alu8.md R239, branch N = 0): the amount and the carry. -/
def daaAddAdjust (a f : Byte) : Byte × Bool :=
  let high := flagC f || decide (a.toNat > 0x99)
  let low := flagH f || decide ((a &&& 0x0F).toNat > 0x09)
  ((if high then 0x60 else 0) ||| (if low then 0x06 else 0), high)

/-- DAA's adjustment after a subtraction (43_alu8.md R239, branch N = 1): the amount and the carry. -/
def daaSubAdjust (f : Byte) : Byte × Bool :=
  ((if flagC f then 0x60 else 0) ||| (if flagH f then 0x06 else 0), flagC f)

/-- DAA (43_alu8.md R239): the new accumulator and the new flags. -/
def daa8 (a f : Byte) : Byte × Byte :=
  if flagN f then
    let adj := daaSubAdjust f
    (a - adj.1, mkFlags (zf (a - adj.1)) true false adj.2)
  else
    let adj := daaAddAdjust a f
    (a + adj.1, mkFlags (zf (a + adj.1)) false false adj.2)

/-- ADD HL,rr (44_alu16.md R262): the sum and the new flags; Z is kept. -/
def addHl16 (hl v : Word) (f : Byte) : Word × Byte :=
  let h := (hl &&& 0x0FFF).toNat + (v &&& 0x0FFF).toNat > 0x0FFF
  let c := hl.toNat + v.toNat > 0xFFFF
  (hl + v, setC (setH (setN f false) (decide h)) (decide c))

/-- The flags of ADD SP,e and LD HL,SP+e (44_alu16.md R263; 42_load16.md R194): those of the unsigned addition of the operand
byte to the low byte of SP. -/
def addSpFlags (sp : Word) (e : Byte) : Byte :=
  mkFlags false false
    (decide ((sp &&& 0x000F).toNat + (e &&& 0x0F).toNat > 0x0F))
    (decide ((sp &&& 0x00FF).toNat + e.toNat > 0xFF))

/-- `Shift(k, v)` (45_rotate_shift.md R279): the result and the carry-out, from the carry before. -/
def shift8 (k : ShiftOp) (v : Byte) (cy : Bool) : Byte × Bool :=
  let bit0 (x : Bool) : Byte := if x then 0x01 else 0x00
  let bit7 (x : Bool) : Byte := if x then 0x80 else 0x00
  match k with
  | .rlc => ((v <<< 1) ||| bit0 (v.getLsbD 7), v.getLsbD 7)
  | .rrc => ((v >>> 1) ||| bit7 (v.getLsbD 0), v.getLsbD 0)
  | .rl => ((v <<< 1) ||| bit0 cy, v.getLsbD 7)
  | .rr => ((v >>> 1) ||| bit7 cy, v.getLsbD 0)
  | .sla => (v <<< 1, v.getLsbD 7)
  | .sra => ((v >>> 1) ||| (v &&& 0x80), v.getLsbD 0)
  | .swap => (((v &&& 0x0F) <<< 4) ||| (v >>> 4), false)
  | .srl => (v >>> 1, v.getLsbD 0)

/-- The flags of a 0xCB rotate, shift or SWAP (45_rotate_shift.md R279). -/
def shiftFlags (r : Byte × Bool) : Byte := mkFlags (zf r.1) false false r.2

/-- The flags of BIT (46_bit.md R300, R301): Cy is kept. -/
def bitFlags (v : Byte) (b : Fin 8) (f : Byte) : Byte :=
  setH (setN (setZ f (!v.getLsbD b)) false) true

end Sys2Proof.Machine
end

