-- ==== Sys2Proof/Machine/Ops.lean ====
section
/-! DEFINITION. The named operations: memory (20_memory.md), address normalisation (00_scope.md R14), the stack
(42_load16.md R190), entering a fault (60_exceptions.md R347) and completing an instruction (40_engine.md R135), the
interrupt-flag operations, and the host's load and reset. A computation that may raise a fault is an `Except Fault`. -/

namespace Sys2Proof.Machine

/-- What a step, a meaning or a host operation answers. -/
abbrev Out := Host.Outcome State Fault Refusal

/-! Byte stores by address. -/

/-- What an unlisted byte of `mem` reads as: its reset value, 0x00 and then each entry of IO_DEFAULTS for its address in turn
(20_memory.md R79; 70_reset_and_hazards.md R390). -/
def memDefault (p : Params) (a : Nat) : Byte :=
  p.ioDefaults.foldl (fun v entry => if entry.1 = a then entry.2 else v) 0x00

/-- What an unlisted byte of the cartridge image reads as (log entry 4). -/
def romDefault (_ : Nat) : Byte := 0

/-- The byte at an address. -/
def Mem.read (dflt : Nat → Byte) : Mem → Nat → Byte
  | [], a => dflt a
  | cell :: m, a => if cell.1 = a then cell.2 else Mem.read dflt m a

/-- The list without any entry for an address. -/
def Mem.erase : Mem → Nat → Mem
  | [], _ => []
  | cell :: m, a => if cell.1 = a then Mem.erase m a else cell :: Mem.erase m a

/-- The list with an entry put before the first greater address. -/
def Mem.insert : Mem → Nat → Byte → Mem
  | [], a, v => [(a, v)]
  | cell :: m, a, v => if a < cell.1 then (a, v) :: cell :: m else cell :: Mem.insert m a v

/-- The store of one byte; writing what an unlisted address reads as leaves no entry. -/
def Mem.write (dflt : Nat → Byte) (m : Mem) (a : Nat) (v : Byte) : Mem :=
  if v = dflt a then Mem.erase m a else Mem.insert (Mem.erase m a) a v

/-- The canonical form: addresses strictly rising, no entry that an unlisted address would read as. -/
def Mem.wf (dflt : Nat → Byte) : Mem → Bool
  | [] => true
  | cell :: m => cell.2 != dflt cell.1 && m.all (fun next => decide (cell.1 < next.1)) && Mem.wf dflt m

/-! Addresses. -/

/-- `addr16(v)` (00_scope.md R14): the normalisation of a computed PC, SP or memory address. -/
def State.addr16 (s : State) (v : Int) : Except Fault Word :=
  match s.cfg.addrOverflow with
  | .wrap => .ok (BitVec.ofInt 16 v)
  | .fault => if 0 ≤ v ∧ v ≤ 0xFFFF then .ok (BitVec.ofInt 16 v) else .error (.addressRange v)

/-- `addr16(w + k)`. -/
def State.addrAdd (s : State) (w : Word) (k : Int) : Except Fault Word := s.addr16 ((w.toNat : Int) + k)

/-- `PC` before the increment, and `PC <- addr16(PC + 1)`: the register file's PC-advance (10_state.md R31). -/
def State.advancePc (s : State) : Except Fault (Word × State) := do
  let next ← s.addrAdd s.pc 1
  .ok (s.pc, { s with pc := next })

/-- `PC <- addr16(PC - 1)`: the decrement-PC helper, which no instruction uses (10_state.md R31; 90_conflicts.md C5). -/
def State.retractPc (s : State) : Except Fault State := do
  let pc ← s.addrAdd s.pc (-1)
  .ok { s with pc := pc }

/-- An address of the ROM window (20_memory.md R62, R63). -/
def inRomWindow (p : Params) (a : Word) : Bool := a.toNat ≤ p.romWindowEnd.toNat

/-! Memory accesses. -/

/-- `MemRead(a, 1)` (20_memory.md R63). -/
def State.readByte (s : State) (a : Word) : Byte :=
  if inRomWindow s.cfg.params a then Mem.read romDefault s.rom a.toNat else Mem.read (memDefault s.cfg.params) s.mem a.toNat

/-- `mem[a] <- v`, the direct store into the backing buffer (20_memory.md R64; 60_exceptions.md R367). -/
def State.pokeByte (s : State) (a : Word) (v : Byte) : State :=
  { s with mem := Mem.write (memDefault s.cfg.params) s.mem a.toNat v }

/-- One line of EchoMirror: an address of the mirrored range at `source` is stored to the same place of the range at `target`
(20_memory.md R65), whose address goes through `addr16` as every address does (00_scope.md R14; 20_memory.md R69). -/
def State.mirrorByte (s : State) (source target : Word) (a : Word) (v : Byte) : Except Fault State :=
  if source.toNat ≤ a.toNat ∧ a.toNat < source.toNat + s.cfg.params.echoLen then do
    let p ← s.addrAdd target (a.toNat - source.toNat : Nat)
    .ok (s.pokeByte p v)
  else .ok s

/-- `EchoMirror(a, v)` (20_memory.md R65). -/
def State.echoMirror (s : State) (a : Word) (v : Byte) : Except Fault State := do
  let t ← s.mirrorByte s.cfg.params.wramBase s.cfg.params.echoBase a v
  t.mirrorByte s.cfg.params.echoBase s.cfg.params.wramBase a v

/-- `mem[a] <- v; EchoMirror(a, v)` (20_memory.md R64, R65). -/
def State.storeByte (s : State) (a : Word) (v : Byte) : Except Fault State := (s.pokeByte a v).echoMirror a v

/-- `MemWrite(a, 1, v)` (20_memory.md R64). -/
def State.writeByte (s : State) (a : Word) (v : Byte) : Except Fault State :=
  if inRomWindow s.cfg.params a then
    match s.cfg.romWrite with
    | .ignore => .ok s
    | .fault => .error (.romWrite a v)
  else s.storeByte a v

/-- The byte orders of the bus's two-byte accesses (20_memory.md R67, R68); no instruction uses the big-endian one. -/
inductive ByteOrder where
  | little
  | big
  deriving DecidableEq, Repr

/-- `read_short(a, order)` (20_memory.md R67). -/
def State.readShort (s : State) (o : ByteOrder) (a : Word) : Except Fault Word := do
  let a1 ← s.addrAdd a 1
  match o with
  | .little => .ok (Bits.join (s.readByte a1) (s.readByte a))
  | .big => .ok (Bits.join (s.readByte a) (s.readByte a1))

/-- `write_short(a, v, order)` (20_memory.md R68): the byte at `a` is written first. -/
def State.writeShort (s : State) (o : ByteOrder) (a : Word) (v : Word) : Except Fault State := do
  let (first, second) := match o with
    | .little => (Bits.lo v, Bits.hi v)
    | .big => (Bits.hi v, Bits.lo v)
  let t ← s.writeByte a first
  let a1 ← t.addrAdd a 1
  t.writeByte a1 second

/-! The stack (42_load16.md R190). -/

/-- `Push16(v)`. -/
def State.push16 (s : State) (v : Word) : Except Fault State := do
  let sp ← s.addrAdd s.sp (-2)
  State.writeShort { s with sp := sp } .little sp v

/-- `Pop16()`. -/
def State.pop16 (s : State) : Except Fault (Word × State) := do
  let v ← s.readShort .little s.sp
  let sp ← s.addrAdd s.sp 2
  .ok (v, { s with sp := sp })

/-! Faults and completion. -/

/-- Fault entry (60_exceptions.md R347): the fault is recorded and nothing else changes. There is no return from it. -/
def State.takeFault (s : State) (f : Fault) : State := { s with fault := some f }

/-- The end of an instruction begun in `s`: its result, or `s` with the fault it raised (40_engine.md R136). -/
def State.complete (s : State) (r : Except Fault State) : Out :=
  match r with
  | .ok t => .next t
  | .error f => .next (s.takeFault f)

/-- The end of an instruction that is not PC-mutating: after its handler, `PC <- addr16(addr + len)` (40_engine.md R135). -/
def State.retire (s : State) (len : Nat) (r : Except Fault State) : Out :=
  s.complete (do
    let t ← r
    let next ← s.addrAdd s.pc len
    .ok { t with pc := next })

/-! Interrupt control. -/

/-- `IE & IF & 0x1F`: the sources enabled and pending (60_exceptions.md R350). -/
def State.activeSources (s : State) : Byte :=
  s.readByte s.cfg.params.ieAddr &&& s.readByte s.cfg.params.ifAddr &&& 0x1F

/-- `MemWrite(IF_ADDR, 1, MemRead(IF_ADDR, 1) & (0xFF ^ (1 << n)))`: what servicing source n does to the machine
(60_exceptions.md R352, R355); nothing is saved and nothing else changes. -/
def State.clearPending (s : State) (n : Nat) : Except Fault State :=
  s.writeByte s.cfg.params.ifAddr (s.readByte s.cfg.params.ifAddr &&& (0xFF ^^^ ((1 : Byte) <<< n)))

/-- `IME <- 1; ei_pending <- 0`: the part of RETI beside RET (47_control.md R320), and the commit of an EI (40_engine.md R131). -/
def State.enableInterrupts (s : State) : State := { s with ime := true, eiPending := false }

/-- `IME <- 0; ei_pending <- 0` (40_engine.md R141). -/
def State.disableInterrupts (s : State) : State := { s with ime := false, eiPending := false }

/-! The host. -/

/-- The bytes of an image from offset `i` on, as a canonical list. -/
def romOfBytes : Nat → List Byte → Mem
  | _, [] => []
  | i, v :: vs => if v = 0 then romOfBytes (i + 1) vs else (i, v) :: romOfBytes (i + 1) vs

/-- The machine before the host's launch: no cartridge is loaded and no reset has happened (70_reset_and_hazards.md R394). The
other fields hold their reset values, DESIGN CHOICE: the spec gives them no value before the first reset, which replaces them (log
entry 25). -/
def State.beforeLoad (cfg : Config) : State := { State.resetAt cfg with launch := .unloaded }

/-- `load_cartridge` on an image (20_memory.md R76): it becomes the ROM and its type byte's capability string the bank mode, or the
load is refused (60_exceptions.md R345). DESIGN CHOICE: an image that is both short and of an unknown type is refused as short,
since the spec orders the two tests nowhere (log entry 24). -/
def State.loadCartridge (s : State) (image : List Byte) : Out :=
  if image.length < Config.minRomLength then
    .refused (.cartridgeFormat (.shortImage image.length))
  else
    match Config.cartTypes (image.getD Config.cartTypeOffset 0) with
    | none => .refused (.cartridgeFormat (.unknownType (image.getD Config.cartTypeOffset 0)))
    | some mode => .next { s with rom := romOfBytes 0 image, bankMode := some mode, launch := .loaded }

/-- The host's load: `load_cartridge` before the first reset; after it a load has no move, whatever the image
(70_reset_and_hazards.md R403; log entry 25). -/
def hostLoad (image : List Byte) (s : State) : Out :=
  match s.launch with
  | .unloaded => s.loadCartridge image
  | .loaded => s.loadCartridge image
  | .reset => .refused .loadAfterReset

/-- The reset values of every piece of state but the cartridge, the fault record and the configuration
(70_reset_and_hazards.md R390); the cartridge is fixed from then on (R403). -/
def State.powerOn (s : State) : State :=
  { State.resetAt s.cfg with fault := s.fault, rom := s.rom, bankMode := s.bankMode }

/-- The host's reset, at any step boundary after the load: a faulted run is over and is not reset (70_reset_and_hazards.md R390).
DESIGN CHOICE: where no cartridge is loaded, of which R390 and R403 say nothing, the reset is refused by name; and a machine that
is past its reset with no load recorded (launch = reset, bankMode = none: `State.reset` and its successors) is reset like any
other, its cartridge being the launch input of log entry 4 (log entry 27). -/
def hostReset (s : State) : Out :=
  match s.fault, s.launch with
  | some f, _ => .fault f
  | none, .unloaded => .refused .resetBeforeLoad
  | none, .loaded => .next s.powerOn
  | none, .reset => .next s.powerOn

/-- One byte of a program put where a fetch would read it: the cartridge image in the ROM window, the memory above it, with
its echo unless that store raises a fault (log entry 19). -/
def State.placeByte (s : State) (a : Word) (v : Byte) : State :=
  if inRomWindow s.cfg.params a then { s with rom := Mem.write romDefault s.rom a.toNat v }
  else
    match s.storeByte a v with
    | .ok t => t
    | .error _ => s.pokeByte a v

/-- Bytes of a program put at rising addresses. -/
def State.placeBytes (s : State) (a : Word) : List Byte → State
  | [] => s
  | v :: vs => (s.placeByte a v).placeBytes (a + 1) vs

end Sys2Proof.Machine
end

