-- ==== Sys2Proof/Machine/Operands.lean ====
section
/-! DEFINITION. Every operand form: the 8-bit registers and the pairs of 30_encoding.md R103, the pair aliases of 10_state.md
R21 and R22, the condition codes of 47_control.md R310, the high-page addresses of 30_encoding.md R107, and the register
file's generic accessors of 10_state.md R25 and R31. -/

namespace Sys2Proof.Machine

/-- `BC`, `DE`, `HL`, `AF` (10_state.md R21). -/
def State.bc (s : State) : Word := Bits.join s.b s.c
def State.de (s : State) : Word := Bits.join s.d s.e
def State.hl (s : State) : Word := Bits.join s.h s.l
def State.af (s : State) : Word := Bits.join s.a s.f

/-- `r8[r]` (30_encoding.md R103). -/
def State.r8 (s : State) : R8 → Byte
  | .b => s.b
  | .c => s.c
  | .d => s.d
  | .e => s.e
  | .h => s.h
  | .l => s.l
  | .a => s.a

/-- `r8[r] <- v`. -/
def State.setR8 (s : State) (r : R8) (v : Byte) : State :=
  match r with
  | .b => { s with b := v }
  | .c => { s with c := v }
  | .d => { s with d := v }
  | .e => { s with e := v }
  | .h => { s with h := v }
  | .l => { s with l := v }
  | .a => { s with a := v }

/-- `r16[p]` of the rp table (30_encoding.md R103). -/
def State.pair (s : State) : Pair → Word
  | .bc => s.bc
  | .de => s.de
  | .hl => s.hl
  | .sp => s.sp

/-- `r16[p] <- v` (10_state.md R22). -/
def State.setPair (s : State) (p : Pair) (v : Word) : State :=
  match p with
  | .bc => { s with b := Bits.hi v, c := Bits.lo v }
  | .de => { s with d := Bits.hi v, e := Bits.lo v }
  | .hl => { s with h := Bits.hi v, l := Bits.lo v }
  | .sp => { s with sp := v }

/-- The pair of the rp2 table (30_encoding.md R103). -/
def State.stackPair (s : State) : StackPair → Word
  | .bc => s.bc
  | .de => s.de
  | .hl => s.hl
  | .af => s.af

/-- A write of a pair of the rp2 table; the setter stores all eight bits of F (10_state.md R22). -/
def State.setStackPair (s : State) (p : StackPair) (v : Word) : State :=
  match p with
  | .bc => s.setPair .bc v
  | .de => s.setPair .de v
  | .hl => s.setPair .hl v
  | .af => { s with a := Bits.hi v, f := Bits.lo v }

/-- The value a POP puts into its pair: POP AF masks bits 3..0 of F (42_load16.md R196, R197). -/
def popValue (p : StackPair) (v : Word) : Word :=
  match p with
  | .af => v &&& 0xFFF0
  | .bc | .de | .hl => v

/-- `cond(cc)` (47_control.md R310). -/
def State.cond (s : State) : Cond → Bool
  | .nz => !flagZ s.f
  | .z => flagZ s.f
  | .nc => !flagC s.f
  | .c => flagC s.f

/-- The high-page address `0xFF00 + n` (30_encoding.md R107). -/
def highPage (n : Byte) : Word := 0xFF00 + Bits.zext16 n

/-- `A <- MemRead(a, 1)`. -/
def State.loadA (s : State) (a : Word) : State := { s with a := s.readByte a }

/-! The register file's generic accessors (10_state.md R25, R31); no instruction uses them. -/

/-- The identifier space of R25. -/
inductive RegId where
  | r (r : R8)
  | f
  | p (p : StackPair)
  | sp
  | pc
  deriving DecidableEq, Repr

/-- The identifiers of R25 by name. -/
def regIds : List (String × RegId) :=
  [("A", .r .a), ("B", .r .b), ("C", .r .c), ("D", .r .d), ("E", .r .e), ("H", .r .h), ("L", .r .l), ("F", .f),
   ("SP", .sp), ("PC", .pc), ("AF", .p .af), ("BC", .p .bc), ("DE", .p .de), ("HL", .p .hl)]

/-- The register an identifier names; an identifier outside the set raises UnknownRegister (60_exceptions.md R343). -/
def regOfName (name : String) : Except Fault RegId :=
  match regIds.lookup name with
  | some id => .ok id
  | none => .error (.unknownRegister name)

/-- Get: an 8-bit register is zero-extended. -/
def State.getReg (s : State) : RegId → Word
  | .r r => Bits.zext16 (s.r8 r)
  | .f => Bits.zext16 s.f
  | .p p => s.stackPair p
  | .sp => s.sp
  | .pc => s.pc

/-- Set: an 8-bit register takes the low byte. -/
def State.setReg (s : State) (id : RegId) (v : Word) : State :=
  match id with
  | .r r => s.setR8 r (Bits.lo v)
  | .f => { s with f := Bits.lo v }
  | .p p => s.setStackPair p v
  | .sp => { s with sp := v }
  | .pc => { s with pc := v }

/-- Increment: Inc8 with its flags for an 8-bit register, no flag for a pair or SP (90_conflicts.md C4), PC-advance for PC
(10_state.md R31; log entry 9). -/
def State.incReg (s : State) (id : RegId) : Except Fault State :=
  match id with
  | .r r => .ok (State.setR8 { s with f := (inc8 (s.r8 r) s.f).2 } r (inc8 (s.r8 r) s.f).1)
  | .f => .ok { s with f := (inc8 s.f s.f).1 }
  | .p p => .ok (s.setStackPair p (s.stackPair p + 1))
  | .sp => .ok { s with sp := s.sp + 1 }
  | .pc => do
    let (_, t) ← s.advancePc
    .ok t

/-- Decrement, as `incReg`; the decrement-PC helper decrements (10_state.md R31; 90_conflicts.md C5). -/
def State.decReg (s : State) (id : RegId) : Except Fault State :=
  match id with
  | .r r => .ok (State.setR8 { s with f := (dec8 (s.r8 r) s.f).2 } r (dec8 (s.r8 r) s.f).1)
  | .f => .ok { s with f := (dec8 s.f s.f).1 }
  | .p p => .ok (s.setStackPair p (s.stackPair p - 1))
  | .sp => .ok { s with sp := s.sp - 1 }
  | .pc => s.retractPc

end Sys2Proof.Machine
end

