-- ==== Sys2Proof/Machine/Alu16.lean ====
section
/-! DEFINITION. 16-bit arithmetic (44_alu16.md): data arithmetic modulo 65,536, never a fault of its own.
Each meaning takes the state before the fetch, with PC at the instruction's own address. -/

namespace Sys2Proof.Machine

/-- `INC rr` (R260): no flag is written. -/
def incPair (p : Pair) (s : State) : Out := s.retire 1 (.ok (s.setPair p (s.pair p + 1)))

/-- `DEC rr` (R261): no flag is written. -/
def decPair (p : Pair) (s : State) : Out := s.retire 1 (.ok (s.setPair p (s.pair p - 1)))

/-- `ADD HL,rr` (R262). -/
def addHlPair (p : Pair) (s : State) : Out :=
  s.retire 1 (.ok { s.setPair .hl (addHl16 s.hl (s.pair p) s.f).1 with f := (addHl16 s.hl (s.pair p) s.f).2 })

/-- INC BC (R260). -/
def execIncBc (s : State) : Out := incPair .bc s

/-- ADD HL,BC (R262). -/
def execAddHlBc (s : State) : Out := addHlPair .bc s

/-- DEC BC (R261). -/
def execDecBc (s : State) : Out := decPair .bc s

/-- INC DE (R260). -/
def execIncDe (s : State) : Out := incPair .de s

/-- ADD HL,DE (R262). -/
def execAddHlDe (s : State) : Out := addHlPair .de s

/-- DEC DE (R261). -/
def execDecDe (s : State) : Out := decPair .de s

/-- INC HL (R260). -/
def execIncHl (s : State) : Out := incPair .hl s

/-- ADD HL,HL (R262). -/
def execAddHlHl (s : State) : Out := addHlPair .hl s

/-- DEC HL (R261). -/
def execDecHl (s : State) : Out := decPair .hl s

/-- INC SP (R260). -/
def execIncSp (s : State) : Out := incPair .sp s

/-- ADD HL,SP (R262). -/
def execAddHlSp (s : State) : Out := addHlPair .sp s

/-- DEC SP (R261). -/
def execDecSp (s : State) : Out := decPair .sp s

/-- ADD SP,e (R263). -/
def execAddSpE (e : Byte) (s : State) : Out :=
  s.retire 2 (.ok { s with sp := s.sp + Bits.sext16 e, f := addSpFlags s.sp e })

end Sys2Proof.Machine
end

