-- ==== Sys2Proof/Machine/Alu8.lean ====
section
/-! DEFINITION. 8-bit arithmetic and logic (43_alu8.md).
Each meaning takes the state before the fetch, with PC at the instruction's own address. -/

namespace Sys2Proof.Machine

/-- The accumulator and the flags after an ALU operation on operand `v`. -/
def State.applyAlu (s : State) (k : AluOp) (v : Byte) : State :=
  { s with a := (alu k s.a v s.f).1, f := (alu k s.a v s.f).2 }

/-- `alu[y] A,r`. -/
def aluReg (k : AluOp) (r : R8) (s : State) : Out := s.retire 1 (.ok (s.applyAlu k (s.r8 r)))

/-- `alu[y] A,(HL)`. -/
def aluMemHl (k : AluOp) (s : State) : Out := s.retire 1 (.ok (s.applyAlu k (s.readByte s.hl)))

/-- `alu[y] A,n`. -/
def aluImm (k : AluOp) (n : Byte) (s : State) : Out := s.retire 2 (.ok (s.applyAlu k n))

/-- `INC r` (R235). -/
def incReg (r : R8) (s : State) : Out :=
  s.retire 1 (.ok (State.setR8 { s with f := (inc8 (s.r8 r) s.f).2 } r (inc8 (s.r8 r) s.f).1))

/-- `DEC r` (R237). -/
def decReg (r : R8) (s : State) : Out :=
  s.retire 1 (.ok (State.setR8 { s with f := (dec8 (s.r8 r) s.f).2 } r (dec8 (s.r8 r) s.f).1))

/-- `INC (HL)` (R236). -/
def incAtHl (s : State) : Out :=
  s.retire 1 (State.writeByte { s with f := (inc8 (s.readByte s.hl) s.f).2 } s.hl (inc8 (s.readByte s.hl) s.f).1)

/-- `DEC (HL)` (R238). -/
def decAtHl (s : State) : Out :=
  s.retire 1 (State.writeByte { s with f := (dec8 (s.readByte s.hl) s.f).2 } s.hl (dec8 (s.readByte s.hl) s.f).1)

/-- DAA (R239). -/
def State.daa (s : State) : State := { s with a := (daa8 s.a s.f).1, f := (daa8 s.a s.f).2 }

/-- CPL (R240). -/
def State.cpl (s : State) : State := { s with a := s.a ^^^ 0xFF, f := setH (setN s.f true) true }

/-- SCF (R241). -/
def State.scf (s : State) : State := { s with f := setC (setH (setN s.f false) false) true }

/-- CCF (R242). -/
def State.ccf (s : State) : State := { s with f := setC (setH (setN s.f false) false) (!flagC s.f) }

/-- INC B (R235). -/
def execIncB (s : State) : Out := incReg .b s

/-- DEC B (R237). -/
def execDecB (s : State) : Out := decReg .b s

/-- INC C (R235). -/
def execIncC (s : State) : Out := incReg .c s

/-- DEC C (R237). -/
def execDecC (s : State) : Out := decReg .c s

/-- INC D (R235). -/
def execIncD (s : State) : Out := incReg .d s

/-- DEC D (R237). -/
def execDecD (s : State) : Out := decReg .d s

/-- INC E (R235). -/
def execIncE (s : State) : Out := incReg .e s

/-- DEC E (R237). -/
def execDecE (s : State) : Out := decReg .e s

/-- INC H (R235). -/
def execIncH (s : State) : Out := incReg .h s

/-- DEC H (R237). -/
def execDecH (s : State) : Out := decReg .h s

/-- DAA (R239). -/
def execDaa (s : State) : Out := s.retire 1 (.ok s.daa)

/-- INC L (R235). -/
def execIncL (s : State) : Out := incReg .l s

/-- DEC L (R237). -/
def execDecL (s : State) : Out := decReg .l s

/-- CPL (R240). -/
def execCpl (s : State) : Out := s.retire 1 (.ok s.cpl)

/-- INC (HL) (R236). -/
def execIncMemHl (s : State) : Out := incAtHl s

/-- DEC (HL) (R238). -/
def execDecMemHl (s : State) : Out := decAtHl s

/-- SCF (R241). -/
def execScf (s : State) : Out := s.retire 1 (.ok s.scf)

/-- INC A (R235). -/
def execIncA (s : State) : Out := incReg .a s

/-- DEC A (R237). -/
def execDecA (s : State) : Out := decReg .a s

/-- CCF (R242). -/
def execCcf (s : State) : Out := s.retire 1 (.ok s.ccf)

/-- ADD A,B (R211). -/
def execAddAB (s : State) : Out := aluReg .add .b s

/-- ADD A,C (R211). -/
def execAddAC (s : State) : Out := aluReg .add .c s

/-- ADD A,D (R211). -/
def execAddAD (s : State) : Out := aluReg .add .d s

/-- ADD A,E (R211). -/
def execAddAE (s : State) : Out := aluReg .add .e s

/-- ADD A,H (R211). -/
def execAddAH (s : State) : Out := aluReg .add .h s

/-- ADD A,L (R211). -/
def execAddAL (s : State) : Out := aluReg .add .l s

/-- ADD A,(HL) (R212). -/
def execAddAMemHl (s : State) : Out := aluMemHl .add s

/-- ADD A,A (R211). -/
def execAddAA (s : State) : Out := aluReg .add .a s

/-- ADC A,B (R214). -/
def execAdcAB (s : State) : Out := aluReg .adc .b s

/-- ADC A,C (R214). -/
def execAdcAC (s : State) : Out := aluReg .adc .c s

/-- ADC A,D (R214). -/
def execAdcAD (s : State) : Out := aluReg .adc .d s

/-- ADC A,E (R214). -/
def execAdcAE (s : State) : Out := aluReg .adc .e s

/-- ADC A,H (R214). -/
def execAdcAH (s : State) : Out := aluReg .adc .h s

/-- ADC A,L (R214). -/
def execAdcAL (s : State) : Out := aluReg .adc .l s

/-- ADC A,(HL) (R215). -/
def execAdcAMemHl (s : State) : Out := aluMemHl .adc s

/-- ADC A,A (R214). -/
def execAdcAA (s : State) : Out := aluReg .adc .a s

/-- SUB B (R217). -/
def execSubB (s : State) : Out := aluReg .sub .b s

/-- SUB C (R217). -/
def execSubC (s : State) : Out := aluReg .sub .c s

/-- SUB D (R217). -/
def execSubD (s : State) : Out := aluReg .sub .d s

/-- SUB E (R217). -/
def execSubE (s : State) : Out := aluReg .sub .e s

/-- SUB H (R217). -/
def execSubH (s : State) : Out := aluReg .sub .h s

/-- SUB L (R217). -/
def execSubL (s : State) : Out := aluReg .sub .l s

/-- SUB (HL) (R218). -/
def execSubMemHl (s : State) : Out := aluMemHl .sub s

/-- SUB A (R217). -/
def execSubA (s : State) : Out := aluReg .sub .a s

/-- SBC A,B (R220). -/
def execSbcAB (s : State) : Out := aluReg .sbc .b s

/-- SBC A,C (R220). -/
def execSbcAC (s : State) : Out := aluReg .sbc .c s

/-- SBC A,D (R220). -/
def execSbcAD (s : State) : Out := aluReg .sbc .d s

/-- SBC A,E (R220). -/
def execSbcAE (s : State) : Out := aluReg .sbc .e s

/-- SBC A,H (R220). -/
def execSbcAH (s : State) : Out := aluReg .sbc .h s

/-- SBC A,L (R220). -/
def execSbcAL (s : State) : Out := aluReg .sbc .l s

/-- SBC A,(HL) (R221). -/
def execSbcAMemHl (s : State) : Out := aluMemHl .sbc s

/-- SBC A,A (R220). -/
def execSbcAA (s : State) : Out := aluReg .sbc .a s

/-- AND B (R223). -/
def execAndB (s : State) : Out := aluReg .and .b s

/-- AND C (R223). -/
def execAndC (s : State) : Out := aluReg .and .c s

/-- AND D (R223). -/
def execAndD (s : State) : Out := aluReg .and .d s

/-- AND E (R223). -/
def execAndE (s : State) : Out := aluReg .and .e s

/-- AND H (R223). -/
def execAndH (s : State) : Out := aluReg .and .h s

/-- AND L (R223). -/
def execAndL (s : State) : Out := aluReg .and .l s

/-- AND (HL) (R224). -/
def execAndMemHl (s : State) : Out := aluMemHl .and s

/-- AND A (R223). -/
def execAndA (s : State) : Out := aluReg .and .a s

/-- XOR B (R226). -/
def execXorB (s : State) : Out := aluReg .xor .b s

/-- XOR C (R226). -/
def execXorC (s : State) : Out := aluReg .xor .c s

/-- XOR D (R226). -/
def execXorD (s : State) : Out := aluReg .xor .d s

/-- XOR E (R226). -/
def execXorE (s : State) : Out := aluReg .xor .e s

/-- XOR H (R226). -/
def execXorH (s : State) : Out := aluReg .xor .h s

/-- XOR L (R226). -/
def execXorL (s : State) : Out := aluReg .xor .l s

/-- XOR (HL) (R227). -/
def execXorMemHl (s : State) : Out := aluMemHl .xor s

/-- XOR A (R226). -/
def execXorA (s : State) : Out := aluReg .xor .a s

/-- OR B (R229). -/
def execOrB (s : State) : Out := aluReg .or .b s

/-- OR C (R229). -/
def execOrC (s : State) : Out := aluReg .or .c s

/-- OR D (R229). -/
def execOrD (s : State) : Out := aluReg .or .d s

/-- OR E (R229). -/
def execOrE (s : State) : Out := aluReg .or .e s

/-- OR H (R229). -/
def execOrH (s : State) : Out := aluReg .or .h s

/-- OR L (R229). -/
def execOrL (s : State) : Out := aluReg .or .l s

/-- OR (HL) (R230). -/
def execOrMemHl (s : State) : Out := aluMemHl .or s

/-- OR A (R229). -/
def execOrA (s : State) : Out := aluReg .or .a s

/-- CP B (R232). -/
def execCpB (s : State) : Out := aluReg .cp .b s

/-- CP C (R232). -/
def execCpC (s : State) : Out := aluReg .cp .c s

/-- CP D (R232). -/
def execCpD (s : State) : Out := aluReg .cp .d s

/-- CP E (R232). -/
def execCpE (s : State) : Out := aluReg .cp .e s

/-- CP H (R232). -/
def execCpH (s : State) : Out := aluReg .cp .h s

/-- CP L (R232). -/
def execCpL (s : State) : Out := aluReg .cp .l s

/-- CP (HL) (R233). -/
def execCpMemHl (s : State) : Out := aluMemHl .cp s

/-- CP A (R232). -/
def execCpA (s : State) : Out := aluReg .cp .a s

/-- ADD A,n (R213). -/
def execAddAN (n : Byte) (s : State) : Out := aluImm .add n s

/-- ADC A,n (R216). -/
def execAdcAN (n : Byte) (s : State) : Out := aluImm .adc n s

/-- SUB n (R219). -/
def execSubN (n : Byte) (s : State) : Out := aluImm .sub n s

/-- SBC A,n (R222). -/
def execSbcAN (n : Byte) (s : State) : Out := aluImm .sbc n s

/-- AND n (R225). -/
def execAndN (n : Byte) (s : State) : Out := aluImm .and n s

/-- XOR n (R228). -/
def execXorN (n : Byte) (s : State) : Out := aluImm .xor n s

/-- OR n (R231). -/
def execOrN (n : Byte) (s : State) : Out := aluImm .or n s

/-- CP n (R234). -/
def execCpN (n : Byte) (s : State) : Out := aluImm .cp n s

end Sys2Proof.Machine
end

