-- ==== Sys2Proof/Machine/Bit.lean ====
section
/-! DEFINITION. Bit test, reset and set (46_bit.md).
Each meaning takes the state before the fetch, with PC at the instruction's own address. -/

namespace Sys2Proof.Machine

/-- The byte with bit `b` cleared (R302). -/
def clearBit (v : Byte) (b : Fin 8) : Byte := v &&& (0xFF ^^^ ((1 : Byte) <<< b.val))

/-- The byte with bit `b` set (R304). -/
def raiseBit (v : Byte) (b : Fin 8) : Byte := v ||| ((1 : Byte) <<< b.val)

/-- `BIT b,r` (R300). -/
def bitReg (b : Fin 8) (r : R8) (s : State) : Out := s.retire 2 (.ok { s with f := bitFlags (s.r8 r) b s.f })

/-- `BIT b,(HL)` (R301). -/
def bitMemHl (b : Fin 8) (s : State) : Out := s.retire 2 (.ok { s with f := bitFlags (s.readByte s.hl) b s.f })

/-- `RES b,r` (R302). -/
def resReg (b : Fin 8) (r : R8) (s : State) : Out := s.retire 2 (.ok (s.setR8 r (clearBit (s.r8 r) b)))

/-- `RES b,(HL)` (R303). -/
def resMemHl (b : Fin 8) (s : State) : Out := s.retire 2 (s.writeByte s.hl (clearBit (s.readByte s.hl) b))

/-- `SET b,r` (R304). -/
def setReg8 (b : Fin 8) (r : R8) (s : State) : Out := s.retire 2 (.ok (s.setR8 r (raiseBit (s.r8 r) b)))

/-- `SET b,(HL)` (R305). -/
def setMemHl (b : Fin 8) (s : State) : Out := s.retire 2 (s.writeByte s.hl (raiseBit (s.readByte s.hl) b))

/-- BIT 0,B (R300). -/
def execBit0B (s : State) : Out := bitReg 0 .b s

/-- BIT 0,C (R300). -/
def execBit0C (s : State) : Out := bitReg 0 .c s

/-- BIT 0,D (R300). -/
def execBit0D (s : State) : Out := bitReg 0 .d s

/-- BIT 0,E (R300). -/
def execBit0E (s : State) : Out := bitReg 0 .e s

/-- BIT 0,H (R300). -/
def execBit0H (s : State) : Out := bitReg 0 .h s

/-- BIT 0,L (R300). -/
def execBit0L (s : State) : Out := bitReg 0 .l s

/-- BIT 0,(HL) (R301). -/
def execBit0MemHl (s : State) : Out := bitMemHl 0 s

/-- BIT 0,A (R300). -/
def execBit0A (s : State) : Out := bitReg 0 .a s

/-- BIT 1,B (R300). -/
def execBit1B (s : State) : Out := bitReg 1 .b s

/-- BIT 1,C (R300). -/
def execBit1C (s : State) : Out := bitReg 1 .c s

/-- BIT 1,D (R300). -/
def execBit1D (s : State) : Out := bitReg 1 .d s

/-- BIT 1,E (R300). -/
def execBit1E (s : State) : Out := bitReg 1 .e s

/-- BIT 1,H (R300). -/
def execBit1H (s : State) : Out := bitReg 1 .h s

/-- BIT 1,L (R300). -/
def execBit1L (s : State) : Out := bitReg 1 .l s

/-- BIT 1,(HL) (R301). -/
def execBit1MemHl (s : State) : Out := bitMemHl 1 s

/-- BIT 1,A (R300). -/
def execBit1A (s : State) : Out := bitReg 1 .a s

/-- BIT 2,B (R300). -/
def execBit2B (s : State) : Out := bitReg 2 .b s

/-- BIT 2,C (R300). -/
def execBit2C (s : State) : Out := bitReg 2 .c s

/-- BIT 2,D (R300). -/
def execBit2D (s : State) : Out := bitReg 2 .d s

/-- BIT 2,E (R300). -/
def execBit2E (s : State) : Out := bitReg 2 .e s

/-- BIT 2,H (R300). -/
def execBit2H (s : State) : Out := bitReg 2 .h s

/-- BIT 2,L (R300). -/
def execBit2L (s : State) : Out := bitReg 2 .l s

/-- BIT 2,(HL) (R301). -/
def execBit2MemHl (s : State) : Out := bitMemHl 2 s

/-- BIT 2,A (R300). -/
def execBit2A (s : State) : Out := bitReg 2 .a s

/-- BIT 3,B (R300). -/
def execBit3B (s : State) : Out := bitReg 3 .b s

/-- BIT 3,C (R300). -/
def execBit3C (s : State) : Out := bitReg 3 .c s

/-- BIT 3,D (R300). -/
def execBit3D (s : State) : Out := bitReg 3 .d s

/-- BIT 3,E (R300). -/
def execBit3E (s : State) : Out := bitReg 3 .e s

/-- BIT 3,H (R300). -/
def execBit3H (s : State) : Out := bitReg 3 .h s

/-- BIT 3,L (R300). -/
def execBit3L (s : State) : Out := bitReg 3 .l s

/-- BIT 3,(HL) (R301). -/
def execBit3MemHl (s : State) : Out := bitMemHl 3 s

/-- BIT 3,A (R300). -/
def execBit3A (s : State) : Out := bitReg 3 .a s

/-- BIT 4,B (R300). -/
def execBit4B (s : State) : Out := bitReg 4 .b s

/-- BIT 4,C (R300). -/
def execBit4C (s : State) : Out := bitReg 4 .c s

/-- BIT 4,D (R300). -/
def execBit4D (s : State) : Out := bitReg 4 .d s

/-- BIT 4,E (R300). -/
def execBit4E (s : State) : Out := bitReg 4 .e s

/-- BIT 4,H (R300). -/
def execBit4H (s : State) : Out := bitReg 4 .h s

/-- BIT 4,L (R300). -/
def execBit4L (s : State) : Out := bitReg 4 .l s

/-- BIT 4,(HL) (R301). -/
def execBit4MemHl (s : State) : Out := bitMemHl 4 s

/-- BIT 4,A (R300). -/
def execBit4A (s : State) : Out := bitReg 4 .a s

/-- BIT 5,B (R300). -/
def execBit5B (s : State) : Out := bitReg 5 .b s

/-- BIT 5,C (R300). -/
def execBit5C (s : State) : Out := bitReg 5 .c s

/-- BIT 5,D (R300). -/
def execBit5D (s : State) : Out := bitReg 5 .d s

/-- BIT 5,E (R300). -/
def execBit5E (s : State) : Out := bitReg 5 .e s

/-- BIT 5,H (R300). -/
def execBit5H (s : State) : Out := bitReg 5 .h s

/-- BIT 5,L (R300). -/
def execBit5L (s : State) : Out := bitReg 5 .l s

/-- BIT 5,(HL) (R301). -/
def execBit5MemHl (s : State) : Out := bitMemHl 5 s

/-- BIT 5,A (R300). -/
def execBit5A (s : State) : Out := bitReg 5 .a s

/-- BIT 6,B (R300). -/
def execBit6B (s : State) : Out := bitReg 6 .b s

/-- BIT 6,C (R300). -/
def execBit6C (s : State) : Out := bitReg 6 .c s

/-- BIT 6,D (R300). -/
def execBit6D (s : State) : Out := bitReg 6 .d s

/-- BIT 6,E (R300). -/
def execBit6E (s : State) : Out := bitReg 6 .e s

/-- BIT 6,H (R300). -/
def execBit6H (s : State) : Out := bitReg 6 .h s

/-- BIT 6,L (R300). -/
def execBit6L (s : State) : Out := bitReg 6 .l s

/-- BIT 6,(HL) (R301). -/
def execBit6MemHl (s : State) : Out := bitMemHl 6 s

/-- BIT 6,A (R300). -/
def execBit6A (s : State) : Out := bitReg 6 .a s

/-- BIT 7,B (R300). -/
def execBit7B (s : State) : Out := bitReg 7 .b s

/-- BIT 7,C (R300). -/
def execBit7C (s : State) : Out := bitReg 7 .c s

/-- BIT 7,D (R300). -/
def execBit7D (s : State) : Out := bitReg 7 .d s

/-- BIT 7,E (R300). -/
def execBit7E (s : State) : Out := bitReg 7 .e s

/-- BIT 7,H (R300). -/
def execBit7H (s : State) : Out := bitReg 7 .h s

/-- BIT 7,L (R300). -/
def execBit7L (s : State) : Out := bitReg 7 .l s

/-- BIT 7,(HL) (R301). -/
def execBit7MemHl (s : State) : Out := bitMemHl 7 s

/-- BIT 7,A (R300). -/
def execBit7A (s : State) : Out := bitReg 7 .a s

/-- RES 0,B (R302). -/
def execRes0B (s : State) : Out := resReg 0 .b s

/-- RES 0,C (R302). -/
def execRes0C (s : State) : Out := resReg 0 .c s

/-- RES 0,D (R302). -/
def execRes0D (s : State) : Out := resReg 0 .d s

/-- RES 0,E (R302). -/
def execRes0E (s : State) : Out := resReg 0 .e s

/-- RES 0,H (R302). -/
def execRes0H (s : State) : Out := resReg 0 .h s

/-- RES 0,L (R302). -/
def execRes0L (s : State) : Out := resReg 0 .l s

/-- RES 0,(HL) (R303). -/
def execRes0MemHl (s : State) : Out := resMemHl 0 s

/-- RES 0,A (R302). -/
def execRes0A (s : State) : Out := resReg 0 .a s

/-- RES 1,B (R302). -/
def execRes1B (s : State) : Out := resReg 1 .b s

/-- RES 1,C (R302). -/
def execRes1C (s : State) : Out := resReg 1 .c s

/-- RES 1,D (R302). -/
def execRes1D (s : State) : Out := resReg 1 .d s

/-- RES 1,E (R302). -/
def execRes1E (s : State) : Out := resReg 1 .e s

/-- RES 1,H (R302). -/
def execRes1H (s : State) : Out := resReg 1 .h s

/-- RES 1,L (R302). -/
def execRes1L (s : State) : Out := resReg 1 .l s

/-- RES 1,(HL) (R303). -/
def execRes1MemHl (s : State) : Out := resMemHl 1 s

/-- RES 1,A (R302). -/
def execRes1A (s : State) : Out := resReg 1 .a s

/-- RES 2,B (R302). -/
def execRes2B (s : State) : Out := resReg 2 .b s

/-- RES 2,C (R302). -/
def execRes2C (s : State) : Out := resReg 2 .c s

/-- RES 2,D (R302). -/
def execRes2D (s : State) : Out := resReg 2 .d s

/-- RES 2,E (R302). -/
def execRes2E (s : State) : Out := resReg 2 .e s

/-- RES 2,H (R302). -/
def execRes2H (s : State) : Out := resReg 2 .h s

/-- RES 2,L (R302). -/
def execRes2L (s : State) : Out := resReg 2 .l s

/-- RES 2,(HL) (R303). -/
def execRes2MemHl (s : State) : Out := resMemHl 2 s

/-- RES 2,A (R302). -/
def execRes2A (s : State) : Out := resReg 2 .a s

/-- RES 3,B (R302). -/
def execRes3B (s : State) : Out := resReg 3 .b s

/-- RES 3,C (R302). -/
def execRes3C (s : State) : Out := resReg 3 .c s

/-- RES 3,D (R302). -/
def execRes3D (s : State) : Out := resReg 3 .d s

/-- RES 3,E (R302). -/
def execRes3E (s : State) : Out := resReg 3 .e s

/-- RES 3,H (R302). -/
def execRes3H (s : State) : Out := resReg 3 .h s

/-- RES 3,L (R302). -/
def execRes3L (s : State) : Out := resReg 3 .l s

/-- RES 3,(HL) (R303). -/
def execRes3MemHl (s : State) : Out := resMemHl 3 s

/-- RES 3,A (R302). -/
def execRes3A (s : State) : Out := resReg 3 .a s

/-- RES 4,B (R302). -/
def execRes4B (s : State) : Out := resReg 4 .b s

/-- RES 4,C (R302). -/
def execRes4C (s : State) : Out := resReg 4 .c s

/-- RES 4,D (R302). -/
def execRes4D (s : State) : Out := resReg 4 .d s

/-- RES 4,E (R302). -/
def execRes4E (s : State) : Out := resReg 4 .e s

/-- RES 4,H (R302). -/
def execRes4H (s : State) : Out := resReg 4 .h s

/-- RES 4,L (R302). -/
def execRes4L (s : State) : Out := resReg 4 .l s

/-- RES 4,(HL) (R303). -/
def execRes4MemHl (s : State) : Out := resMemHl 4 s

/-- RES 4,A (R302). -/
def execRes4A (s : State) : Out := resReg 4 .a s

/-- RES 5,B (R302). -/
def execRes5B (s : State) : Out := resReg 5 .b s

/-- RES 5,C (R302). -/
def execRes5C (s : State) : Out := resReg 5 .c s

/-- RES 5,D (R302). -/
def execRes5D (s : State) : Out := resReg 5 .d s

/-- RES 5,E (R302). -/
def execRes5E (s : State) : Out := resReg 5 .e s

/-- RES 5,H (R302). -/
def execRes5H (s : State) : Out := resReg 5 .h s

/-- RES 5,L (R302). -/
def execRes5L (s : State) : Out := resReg 5 .l s

/-- RES 5,(HL) (R303). -/
def execRes5MemHl (s : State) : Out := resMemHl 5 s

/-- RES 5,A (R302). -/
def execRes5A (s : State) : Out := resReg 5 .a s

/-- RES 6,B (R302). -/
def execRes6B (s : State) : Out := resReg 6 .b s

/-- RES 6,C (R302). -/
def execRes6C (s : State) : Out := resReg 6 .c s

/-- RES 6,D (R302). -/
def execRes6D (s : State) : Out := resReg 6 .d s

/-- RES 6,E (R302). -/
def execRes6E (s : State) : Out := resReg 6 .e s

/-- RES 6,H (R302). -/
def execRes6H (s : State) : Out := resReg 6 .h s

/-- RES 6,L (R302). -/
def execRes6L (s : State) : Out := resReg 6 .l s

/-- RES 6,(HL) (R303). -/
def execRes6MemHl (s : State) : Out := resMemHl 6 s

/-- RES 6,A (R302). -/
def execRes6A (s : State) : Out := resReg 6 .a s

/-- RES 7,B (R302). -/
def execRes7B (s : State) : Out := resReg 7 .b s

/-- RES 7,C (R302). -/
def execRes7C (s : State) : Out := resReg 7 .c s

/-- RES 7,D (R302). -/
def execRes7D (s : State) : Out := resReg 7 .d s

/-- RES 7,E (R302). -/
def execRes7E (s : State) : Out := resReg 7 .e s

/-- RES 7,H (R302). -/
def execRes7H (s : State) : Out := resReg 7 .h s

/-- RES 7,L (R302). -/
def execRes7L (s : State) : Out := resReg 7 .l s

/-- RES 7,(HL) (R303). -/
def execRes7MemHl (s : State) : Out := resMemHl 7 s

/-- RES 7,A (R302). -/
def execRes7A (s : State) : Out := resReg 7 .a s

/-- SET 0,B (R304). -/
def execSet0B (s : State) : Out := setReg8 0 .b s

/-- SET 0,C (R304). -/
def execSet0C (s : State) : Out := setReg8 0 .c s

/-- SET 0,D (R304). -/
def execSet0D (s : State) : Out := setReg8 0 .d s

/-- SET 0,E (R304). -/
def execSet0E (s : State) : Out := setReg8 0 .e s

/-- SET 0,H (R304). -/
def execSet0H (s : State) : Out := setReg8 0 .h s

/-- SET 0,L (R304). -/
def execSet0L (s : State) : Out := setReg8 0 .l s

/-- SET 0,(HL) (R305). -/
def execSet0MemHl (s : State) : Out := setMemHl 0 s

/-- SET 0,A (R304). -/
def execSet0A (s : State) : Out := setReg8 0 .a s

/-- SET 1,B (R304). -/
def execSet1B (s : State) : Out := setReg8 1 .b s

/-- SET 1,C (R304). -/
def execSet1C (s : State) : Out := setReg8 1 .c s

/-- SET 1,D (R304). -/
def execSet1D (s : State) : Out := setReg8 1 .d s

/-- SET 1,E (R304). -/
def execSet1E (s : State) : Out := setReg8 1 .e s

/-- SET 1,H (R304). -/
def execSet1H (s : State) : Out := setReg8 1 .h s

/-- SET 1,L (R304). -/
def execSet1L (s : State) : Out := setReg8 1 .l s

/-- SET 1,(HL) (R305). -/
def execSet1MemHl (s : State) : Out := setMemHl 1 s

/-- SET 1,A (R304). -/
def execSet1A (s : State) : Out := setReg8 1 .a s

/-- SET 2,B (R304). -/
def execSet2B (s : State) : Out := setReg8 2 .b s

/-- SET 2,C (R304). -/
def execSet2C (s : State) : Out := setReg8 2 .c s

/-- SET 2,D (R304). -/
def execSet2D (s : State) : Out := setReg8 2 .d s

/-- SET 2,E (R304). -/
def execSet2E (s : State) : Out := setReg8 2 .e s

/-- SET 2,H (R304). -/
def execSet2H (s : State) : Out := setReg8 2 .h s

/-- SET 2,L (R304). -/
def execSet2L (s : State) : Out := setReg8 2 .l s

/-- SET 2,(HL) (R305). -/
def execSet2MemHl (s : State) : Out := setMemHl 2 s

/-- SET 2,A (R304). -/
def execSet2A (s : State) : Out := setReg8 2 .a s

/-- SET 3,B (R304). -/
def execSet3B (s : State) : Out := setReg8 3 .b s

/-- SET 3,C (R304). -/
def execSet3C (s : State) : Out := setReg8 3 .c s

/-- SET 3,D (R304). -/
def execSet3D (s : State) : Out := setReg8 3 .d s

/-- SET 3,E (R304). -/
def execSet3E (s : State) : Out := setReg8 3 .e s

/-- SET 3,H (R304). -/
def execSet3H (s : State) : Out := setReg8 3 .h s

/-- SET 3,L (R304). -/
def execSet3L (s : State) : Out := setReg8 3 .l s

/-- SET 3,(HL) (R305). -/
def execSet3MemHl (s : State) : Out := setMemHl 3 s

/-- SET 3,A (R304). -/
def execSet3A (s : State) : Out := setReg8 3 .a s

/-- SET 4,B (R304). -/
def execSet4B (s : State) : Out := setReg8 4 .b s

/-- SET 4,C (R304). -/
def execSet4C (s : State) : Out := setReg8 4 .c s

/-- SET 4,D (R304). -/
def execSet4D (s : State) : Out := setReg8 4 .d s

/-- SET 4,E (R304). -/
def execSet4E (s : State) : Out := setReg8 4 .e s

/-- SET 4,H (R304). -/
def execSet4H (s : State) : Out := setReg8 4 .h s

/-- SET 4,L (R304). -/
def execSet4L (s : State) : Out := setReg8 4 .l s

/-- SET 4,(HL) (R305). -/
def execSet4MemHl (s : State) : Out := setMemHl 4 s

/-- SET 4,A (R304). -/
def execSet4A (s : State) : Out := setReg8 4 .a s

/-- SET 5,B (R304). -/
def execSet5B (s : State) : Out := setReg8 5 .b s

/-- SET 5,C (R304). -/
def execSet5C (s : State) : Out := setReg8 5 .c s

/-- SET 5,D (R304). -/
def execSet5D (s : State) : Out := setReg8 5 .d s

/-- SET 5,E (R304). -/
def execSet5E (s : State) : Out := setReg8 5 .e s

/-- SET 5,H (R304). -/
def execSet5H (s : State) : Out := setReg8 5 .h s

/-- SET 5,L (R304). -/
def execSet5L (s : State) : Out := setReg8 5 .l s

/-- SET 5,(HL) (R305). -/
def execSet5MemHl (s : State) : Out := setMemHl 5 s

/-- SET 5,A (R304). -/
def execSet5A (s : State) : Out := setReg8 5 .a s

/-- SET 6,B (R304). -/
def execSet6B (s : State) : Out := setReg8 6 .b s

/-- SET 6,C (R304). -/
def execSet6C (s : State) : Out := setReg8 6 .c s

/-- SET 6,D (R304). -/
def execSet6D (s : State) : Out := setReg8 6 .d s

/-- SET 6,E (R304). -/
def execSet6E (s : State) : Out := setReg8 6 .e s

/-- SET 6,H (R304). -/
def execSet6H (s : State) : Out := setReg8 6 .h s

/-- SET 6,L (R304). -/
def execSet6L (s : State) : Out := setReg8 6 .l s

/-- SET 6,(HL) (R305). -/
def execSet6MemHl (s : State) : Out := setMemHl 6 s

/-- SET 6,A (R304). -/
def execSet6A (s : State) : Out := setReg8 6 .a s

/-- SET 7,B (R304). -/
def execSet7B (s : State) : Out := setReg8 7 .b s

/-- SET 7,C (R304). -/
def execSet7C (s : State) : Out := setReg8 7 .c s

/-- SET 7,D (R304). -/
def execSet7D (s : State) : Out := setReg8 7 .d s

/-- SET 7,E (R304). -/
def execSet7E (s : State) : Out := setReg8 7 .e s

/-- SET 7,H (R304). -/
def execSet7H (s : State) : Out := setReg8 7 .h s

/-- SET 7,L (R304). -/
def execSet7L (s : State) : Out := setReg8 7 .l s

/-- SET 7,(HL) (R305). -/
def execSet7MemHl (s : State) : Out := setMemHl 7 s

/-- SET 7,A (R304). -/
def execSet7A (s : State) : Out := setReg8 7 .a s

end Sys2Proof.Machine
end

