-- ==== Sys2Proof/Machine/Control.lean ====
section
/-! DEFINITION. Jumps, calls, returns and restarts (47_control.md). Every one sets PC itself, taken or not (30_encoding.md R116).
Each meaning takes the state before the fetch, with PC at the instruction's own address. -/

namespace Sys2Proof.Machine

/-- `PC <- next`, the not-taken branch of a conditional form `len` bytes long (92_eei_decisions.md D35). -/
def State.skip (s : State) (len : Nat) : Except Fault State := do
  let next ← s.addrAdd s.pc len
  .ok { s with pc := next }

/-- `PC <- addr16(next + sint_8(b1))` (R314). -/
def State.jumpRelative (s : State) (e : Byte) : Except Fault State := do
  let next ← s.addrAdd s.pc 2
  let target ← s.addrAdd next (Bits.sint8 e)
  .ok { s with pc := target }

/-- `Push16(next); PC <- target`, for a call `len` bytes long (R316, R321). -/
def State.call (s : State) (len : Nat) (target : Word) : Except Fault State := do
  let next ← s.addrAdd s.pc len
  let t ← s.push16 next
  .ok { t with pc := target }

/-- `PC <- Pop16()` (R318). -/
def State.returnFrom (s : State) : Except Fault State := do
  let (v, t) ← s.pop16
  .ok { t with pc := v }

/-- `JP cc,nn` (R312). -/
def jpCond (k : Cond) (nn : Word) (s : State) : Out :=
  s.complete (if s.cond k then .ok { s with pc := nn } else s.skip 3)

/-- `JR cc,e` (R315). -/
def jrCond (k : Cond) (e : Byte) (s : State) : Out := s.complete (if s.cond k then s.jumpRelative e else s.skip 2)

/-- `CALL cc,nn` (R317). -/
def callCond (k : Cond) (nn : Word) (s : State) : Out := s.complete (if s.cond k then s.call 3 nn else s.skip 3)

/-- `RET cc` (R319). -/
def retCond (k : Cond) (s : State) : Out := s.complete (if s.cond k then s.returnFrom else s.skip 1)

/-- `RST t` with target `8 * t` (R321). -/
def restart (t : Fin 8) (s : State) : Out := s.complete (s.call 1 (BitVec.ofNat 16 (8 * t.val)))

/-- JR e (R314). -/
def execJrE (e : Byte) (s : State) : Out := s.complete (s.jumpRelative e)

/-- JR NZ,e (R315). -/
def execJrNzE (e : Byte) (s : State) : Out := jrCond .nz e s

/-- JR Z,e (R315). -/
def execJrZE (e : Byte) (s : State) : Out := jrCond .z e s

/-- JR NC,e (R315). -/
def execJrNcE (e : Byte) (s : State) : Out := jrCond .nc e s

/-- JR C,e (R315). -/
def execJrCE (e : Byte) (s : State) : Out := jrCond .c e s

/-- RET NZ (R319). -/
def execRetNz (s : State) : Out := retCond .nz s

/-- JP NZ,nn (R312). -/
def execJpNzNn (nn : Word) (s : State) : Out := jpCond .nz nn s

/-- JP nn (R311). -/
def execJpNn (nn : Word) (s : State) : Out := s.complete (.ok { s with pc := nn })

/-- CALL NZ,nn (R317). -/
def execCallNzNn (nn : Word) (s : State) : Out := callCond .nz nn s

/-- RST 0x00 (R321). -/
def execRst00 (s : State) : Out := restart 0 s

/-- RET Z (R319). -/
def execRetZ (s : State) : Out := retCond .z s

/-- RET (R318). -/
def execRet (s : State) : Out := s.complete s.returnFrom

/-- JP Z,nn (R312). -/
def execJpZNn (nn : Word) (s : State) : Out := jpCond .z nn s

/-- CALL Z,nn (R317). -/
def execCallZNn (nn : Word) (s : State) : Out := callCond .z nn s

/-- CALL nn (R316). -/
def execCallNn (nn : Word) (s : State) : Out := s.complete (s.call 3 nn)

/-- RST 0x08 (R321). -/
def execRst08 (s : State) : Out := restart 1 s

/-- RET NC (R319). -/
def execRetNc (s : State) : Out := retCond .nc s

/-- JP NC,nn (R312). -/
def execJpNcNn (nn : Word) (s : State) : Out := jpCond .nc nn s

/-- CALL NC,nn (R317). -/
def execCallNcNn (nn : Word) (s : State) : Out := callCond .nc nn s

/-- RST 0x10 (R321). -/
def execRst10 (s : State) : Out := restart 2 s

/-- RET C (R319). -/
def execRetC (s : State) : Out := retCond .c s

/-- RETI (R320). -/
def execReti (s : State) : Out := s.complete (do let t ← s.returnFrom; .ok t.enableInterrupts)

/-- JP C,nn (R312). -/
def execJpCNn (nn : Word) (s : State) : Out := jpCond .c nn s

/-- CALL C,nn (R317). -/
def execCallCNn (nn : Word) (s : State) : Out := callCond .c nn s

/-- RST 0x18 (R321). -/
def execRst18 (s : State) : Out := restart 3 s

/-- RST 0x20 (R321). -/
def execRst20 (s : State) : Out := restart 4 s

/-- JP HL (R313). -/
def execJpHl (s : State) : Out := s.complete (.ok { s with pc := s.hl })

/-- RST 0x28 (R321). -/
def execRst28 (s : State) : Out := restart 5 s

/-- RST 0x30 (R321). -/
def execRst30 (s : State) : Out := restart 6 s

/-- RST 0x38 (R321). -/
def execRst38 (s : State) : Out := restart 7 s

end Sys2Proof.Machine
end

