-- ==== Sys2Proof/WellFormed.lean ====
section
/-! DEFINITION. Which instructions are well-formed: every operand byte and word is admitted by its encoding (30_encoding.md
R101), and `illegal` holds one of the eleven unassigned opcodes (30_encoding.md R111). -/

namespace Sys2Proof

/-- The eleven unassigned primary opcodes (30_encoding.md R111). -/
def illegalOpcodes : List Byte := [0xD3, 0xDB, 0xDD, 0xE3, 0xE4, 0xEB, 0xEC, 0xED, 0xF4, 0xFC, 0xFD]

/-- Well-formedness, constructor by constructor. -/
def Instr.wellFormed (i : Instr) : Bool :=
  match i with
  | .illegal op => illegalOpcodes.contains op
  | .nop | .ldBcNn _ | .ldMemBcA | .incBc | .incB | .decB | .ldBN _ | .rlca => true
  | .ldMemNnSp _ | .addHlBc | .ldAMemBc | .decBc | .incC | .decC | .ldCN _ | .rrca => true
  | .stop _ | .ldDeNn _ | .ldMemDeA | .incDe | .incD | .decD | .ldDN _ | .rla => true
  | .jrE _ | .addHlDe | .ldAMemDe | .decDe | .incE | .decE | .ldEN _ | .rra => true
  | .jrNzE _ | .ldHlNn _ | .ldMemHlIncA | .incHl | .incH | .decH | .ldHN _ | .daa => true
  | .jrZE _ | .addHlHl | .ldAMemHlInc | .decHl | .incL | .decL | .ldLN _ | .cpl => true
  | .jrNcE _ | .ldSpNn _ | .ldMemHlDecA | .incSp | .incMemHl | .decMemHl | .ldMemHlN _ | .scf => true
  | .jrCE _ | .addHlSp | .ldAMemHlDec | .decSp | .incA | .decA | .ldAN _ | .ccf => true
  | .ldBB | .ldBC | .ldBD | .ldBE | .ldBH | .ldBL | .ldBMemHl | .ldBA => true
  | .ldCB | .ldCC | .ldCD | .ldCE | .ldCH | .ldCL | .ldCMemHl | .ldCA => true
  | .ldDB | .ldDC | .ldDD | .ldDE | .ldDH | .ldDL | .ldDMemHl | .ldDA => true
  | .ldEB | .ldEC | .ldED | .ldEE | .ldEH | .ldEL | .ldEMemHl | .ldEA => true
  | .ldHB | .ldHC | .ldHD | .ldHE | .ldHH | .ldHL | .ldHMemHl | .ldHA => true
  | .ldLB | .ldLC | .ldLD | .ldLE | .ldLH | .ldLL | .ldLMemHl | .ldLA => true
  | .ldMemHlB | .ldMemHlC | .ldMemHlD | .ldMemHlE | .ldMemHlH | .ldMemHlL | .halt | .ldMemHlA => true
  | .ldAB | .ldAC | .ldAD | .ldAE | .ldAH | .ldAL | .ldAMemHl | .ldAA => true
  | .addAB | .addAC | .addAD | .addAE | .addAH | .addAL | .addAMemHl | .addAA => true
  | .adcAB | .adcAC | .adcAD | .adcAE | .adcAH | .adcAL | .adcAMemHl | .adcAA => true
  | .subB | .subC | .subD | .subE | .subH | .subL | .subMemHl | .subA => true
  | .sbcAB | .sbcAC | .sbcAD | .sbcAE | .sbcAH | .sbcAL | .sbcAMemHl | .sbcAA => true
  | .andB | .andC | .andD | .andE | .andH | .andL | .andMemHl | .andA => true
  | .xorB | .xorC | .xorD | .xorE | .xorH | .xorL | .xorMemHl | .xorA => true
  | .orB | .orC | .orD | .orE | .orH | .orL | .orMemHl | .orA => true
  | .cpB | .cpC | .cpD | .cpE | .cpH | .cpL | .cpMemHl | .cpA => true
  | .retNz | .popBc | .jpNzNn _ | .jpNn _ | .callNzNn _ | .pushBc | .addAN _ | .rst00 => true
  | .retZ | .ret | .jpZNn _ | .prefixCb _ | .callZNn _ | .callNn _ | .adcAN _ | .rst08 => true
  | .retNc | .popDe | .jpNcNn _ | .callNcNn _ | .pushDe | .subN _ | .rst10 | .retC => true
  | .reti | .jpCNn _ | .callCNn _ | .sbcAN _ | .rst18 | .ldhMemNA _ | .popHl | .ldMemCA => true
  | .pushHl | .andN _ | .rst20 | .addSpE _ | .jpHl | .ldMemNnA _ | .xorN _ | .rst28 => true
  | .ldhAMemN _ | .popAf | .ldAMemC | .di | .pushAf | .orN _ | .rst30 | .ldHlSpE _ => true
  | .ldSpHl | .ldAMemNn _ | .ei | .cpN _ | .rst38 | .rlcB | .rlcC | .rlcD => true
  | .rlcE | .rlcH | .rlcL | .rlcMemHl | .rlcA | .rrcB | .rrcC | .rrcD => true
  | .rrcE | .rrcH | .rrcL | .rrcMemHl | .rrcA | .rlB | .rlC | .rlD => true
  | .rlE | .rlH | .rlL | .rlMemHl | .rlA | .rrB | .rrC | .rrD => true
  | .rrE | .rrH | .rrL | .rrMemHl | .rrA | .slaB | .slaC | .slaD => true
  | .slaE | .slaH | .slaL | .slaMemHl | .slaA | .sraB | .sraC | .sraD => true
  | .sraE | .sraH | .sraL | .sraMemHl | .sraA | .swapB | .swapC | .swapD => true
  | .swapE | .swapH | .swapL | .swapMemHl | .swapA | .srlB | .srlC | .srlD => true
  | .srlE | .srlH | .srlL | .srlMemHl | .srlA | .bit0B | .bit0C | .bit0D => true
  | .bit0E | .bit0H | .bit0L | .bit0MemHl | .bit0A | .bit1B | .bit1C | .bit1D => true
  | .bit1E | .bit1H | .bit1L | .bit1MemHl | .bit1A | .bit2B | .bit2C | .bit2D => true
  | .bit2E | .bit2H | .bit2L | .bit2MemHl | .bit2A | .bit3B | .bit3C | .bit3D => true
  | .bit3E | .bit3H | .bit3L | .bit3MemHl | .bit3A | .bit4B | .bit4C | .bit4D => true
  | .bit4E | .bit4H | .bit4L | .bit4MemHl | .bit4A | .bit5B | .bit5C | .bit5D => true
  | .bit5E | .bit5H | .bit5L | .bit5MemHl | .bit5A | .bit6B | .bit6C | .bit6D => true
  | .bit6E | .bit6H | .bit6L | .bit6MemHl | .bit6A | .bit7B | .bit7C | .bit7D => true
  | .bit7E | .bit7H | .bit7L | .bit7MemHl | .bit7A | .res0B | .res0C | .res0D => true
  | .res0E | .res0H | .res0L | .res0MemHl | .res0A | .res1B | .res1C | .res1D => true
  | .res1E | .res1H | .res1L | .res1MemHl | .res1A | .res2B | .res2C | .res2D => true
  | .res2E | .res2H | .res2L | .res2MemHl | .res2A | .res3B | .res3C | .res3D => true
  | .res3E | .res3H | .res3L | .res3MemHl | .res3A | .res4B | .res4C | .res4D => true
  | .res4E | .res4H | .res4L | .res4MemHl | .res4A | .res5B | .res5C | .res5D => true
  | .res5E | .res5H | .res5L | .res5MemHl | .res5A | .res6B | .res6C | .res6D => true
  | .res6E | .res6H | .res6L | .res6MemHl | .res6A | .res7B | .res7C | .res7D => true
  | .res7E | .res7H | .res7L | .res7MemHl | .res7A | .set0B | .set0C | .set0D => true
  | .set0E | .set0H | .set0L | .set0MemHl | .set0A | .set1B | .set1C | .set1D => true
  | .set1E | .set1H | .set1L | .set1MemHl | .set1A | .set2B | .set2C | .set2D => true
  | .set2E | .set2H | .set2L | .set2MemHl | .set2A | .set3B | .set3C | .set3D => true
  | .set3E | .set3H | .set3L | .set3MemHl | .set3A | .set4B | .set4C | .set4D => true
  | .set4E | .set4H | .set4L | .set4MemHl | .set4A | .set5B | .set5C | .set5D => true
  | .set5E | .set5H | .set5L | .set5MemHl | .set5A | .set6B | .set6C | .set6D => true
  | .set6E | .set6H | .set6L | .set6MemHl | .set6A | .set7B | .set7C | .set7D => true
  | .set7E | .set7H | .set7L | .set7MemHl | .set7A => true

end Sys2Proof
end

