-- ==== Sys2Proof/Machine/RotateShift.lean ====
section
/-! DEFINITION. Rotates, shifts and SWAP (45_rotate_shift.md).
Each meaning takes the state before the fetch, with PC at the instruction's own address. -/

namespace Sys2Proof.Machine

/-- An accumulator rotate (R275 to R278): as the 0xCB form on A, but Z is cleared whatever the result. -/
def rotateA (k : ShiftOp) (s : State) : Out :=
  s.retire 1 (.ok { s with
    a := (shift8 k s.a (flagC s.f)).1
    f := mkFlags false false false (shift8 k s.a (flagC s.f)).2 })

/-- A 0xCB rotate, shift or SWAP of a register (R279). -/
def shiftReg (k : ShiftOp) (r : R8) (s : State) : Out :=
  s.retire 2 (.ok { s.setR8 r (shift8 k (s.r8 r) (flagC s.f)).1 with f := shiftFlags (shift8 k (s.r8 r) (flagC s.f)) })

/-- A 0xCB rotate, shift or SWAP of the byte at (HL) (R279). -/
def shiftMemHl (k : ShiftOp) (s : State) : Out :=
  s.retire 2 (do
    let t ← s.writeByte s.hl (shift8 k (s.readByte s.hl) (flagC s.f)).1
    .ok { t with f := shiftFlags (shift8 k (s.readByte s.hl) (flagC s.f)) })

/-- RLCA (R275). -/
def execRlca (s : State) : Out := rotateA .rlc s

/-- RRCA (R276). -/
def execRrca (s : State) : Out := rotateA .rrc s

/-- RLA (R277). -/
def execRla (s : State) : Out := rotateA .rl s

/-- RRA (R278). -/
def execRra (s : State) : Out := rotateA .rr s

/-- RLC B (R280). -/
def execRlcB (s : State) : Out := shiftReg .rlc .b s

/-- RLC C (R280). -/
def execRlcC (s : State) : Out := shiftReg .rlc .c s

/-- RLC D (R280). -/
def execRlcD (s : State) : Out := shiftReg .rlc .d s

/-- RLC E (R280). -/
def execRlcE (s : State) : Out := shiftReg .rlc .e s

/-- RLC H (R280). -/
def execRlcH (s : State) : Out := shiftReg .rlc .h s

/-- RLC L (R280). -/
def execRlcL (s : State) : Out := shiftReg .rlc .l s

/-- RLC (HL) (R281). -/
def execRlcMemHl (s : State) : Out := shiftMemHl .rlc s

/-- RLC A (R280). -/
def execRlcA (s : State) : Out := shiftReg .rlc .a s

/-- RRC B (R282). -/
def execRrcB (s : State) : Out := shiftReg .rrc .b s

/-- RRC C (R282). -/
def execRrcC (s : State) : Out := shiftReg .rrc .c s

/-- RRC D (R282). -/
def execRrcD (s : State) : Out := shiftReg .rrc .d s

/-- RRC E (R282). -/
def execRrcE (s : State) : Out := shiftReg .rrc .e s

/-- RRC H (R282). -/
def execRrcH (s : State) : Out := shiftReg .rrc .h s

/-- RRC L (R282). -/
def execRrcL (s : State) : Out := shiftReg .rrc .l s

/-- RRC (HL) (R283). -/
def execRrcMemHl (s : State) : Out := shiftMemHl .rrc s

/-- RRC A (R282). -/
def execRrcA (s : State) : Out := shiftReg .rrc .a s

/-- RL B (R284). -/
def execRlB (s : State) : Out := shiftReg .rl .b s

/-- RL C (R284). -/
def execRlC (s : State) : Out := shiftReg .rl .c s

/-- RL D (R284). -/
def execRlD (s : State) : Out := shiftReg .rl .d s

/-- RL E (R284). -/
def execRlE (s : State) : Out := shiftReg .rl .e s

/-- RL H (R284). -/
def execRlH (s : State) : Out := shiftReg .rl .h s

/-- RL L (R284). -/
def execRlL (s : State) : Out := shiftReg .rl .l s

/-- RL (HL) (R285). -/
def execRlMemHl (s : State) : Out := shiftMemHl .rl s

/-- RL A (R284). -/
def execRlA (s : State) : Out := shiftReg .rl .a s

/-- RR B (R286). -/
def execRrB (s : State) : Out := shiftReg .rr .b s

/-- RR C (R286). -/
def execRrC (s : State) : Out := shiftReg .rr .c s

/-- RR D (R286). -/
def execRrD (s : State) : Out := shiftReg .rr .d s

/-- RR E (R286). -/
def execRrE (s : State) : Out := shiftReg .rr .e s

/-- RR H (R286). -/
def execRrH (s : State) : Out := shiftReg .rr .h s

/-- RR L (R286). -/
def execRrL (s : State) : Out := shiftReg .rr .l s

/-- RR (HL) (R287). -/
def execRrMemHl (s : State) : Out := shiftMemHl .rr s

/-- RR A (R286). -/
def execRrA (s : State) : Out := shiftReg .rr .a s

/-- SLA B (R288). -/
def execSlaB (s : State) : Out := shiftReg .sla .b s

/-- SLA C (R288). -/
def execSlaC (s : State) : Out := shiftReg .sla .c s

/-- SLA D (R288). -/
def execSlaD (s : State) : Out := shiftReg .sla .d s

/-- SLA E (R288). -/
def execSlaE (s : State) : Out := shiftReg .sla .e s

/-- SLA H (R288). -/
def execSlaH (s : State) : Out := shiftReg .sla .h s

/-- SLA L (R288). -/
def execSlaL (s : State) : Out := shiftReg .sla .l s

/-- SLA (HL) (R289). -/
def execSlaMemHl (s : State) : Out := shiftMemHl .sla s

/-- SLA A (R288). -/
def execSlaA (s : State) : Out := shiftReg .sla .a s

/-- SRA B (R290). -/
def execSraB (s : State) : Out := shiftReg .sra .b s

/-- SRA C (R290). -/
def execSraC (s : State) : Out := shiftReg .sra .c s

/-- SRA D (R290). -/
def execSraD (s : State) : Out := shiftReg .sra .d s

/-- SRA E (R290). -/
def execSraE (s : State) : Out := shiftReg .sra .e s

/-- SRA H (R290). -/
def execSraH (s : State) : Out := shiftReg .sra .h s

/-- SRA L (R290). -/
def execSraL (s : State) : Out := shiftReg .sra .l s

/-- SRA (HL) (R291). -/
def execSraMemHl (s : State) : Out := shiftMemHl .sra s

/-- SRA A (R290). -/
def execSraA (s : State) : Out := shiftReg .sra .a s

/-- SWAP B (R292). -/
def execSwapB (s : State) : Out := shiftReg .swap .b s

/-- SWAP C (R292). -/
def execSwapC (s : State) : Out := shiftReg .swap .c s

/-- SWAP D (R292). -/
def execSwapD (s : State) : Out := shiftReg .swap .d s

/-- SWAP E (R292). -/
def execSwapE (s : State) : Out := shiftReg .swap .e s

/-- SWAP H (R292). -/
def execSwapH (s : State) : Out := shiftReg .swap .h s

/-- SWAP L (R292). -/
def execSwapL (s : State) : Out := shiftReg .swap .l s

/-- SWAP (HL) (R293). -/
def execSwapMemHl (s : State) : Out := shiftMemHl .swap s

/-- SWAP A (R292). -/
def execSwapA (s : State) : Out := shiftReg .swap .a s

/-- SRL B (R294). -/
def execSrlB (s : State) : Out := shiftReg .srl .b s

/-- SRL C (R294). -/
def execSrlC (s : State) : Out := shiftReg .srl .c s

/-- SRL D (R294). -/
def execSrlD (s : State) : Out := shiftReg .srl .d s

/-- SRL E (R294). -/
def execSrlE (s : State) : Out := shiftReg .srl .e s

/-- SRL H (R294). -/
def execSrlH (s : State) : Out := shiftReg .srl .h s

/-- SRL L (R294). -/
def execSrlL (s : State) : Out := shiftReg .srl .l s

/-- SRL (HL) (R295). -/
def execSrlMemHl (s : State) : Out := shiftMemHl .srl s

/-- SRL A (R294). -/
def execSrlA (s : State) : Out := shiftReg .srl .a s

end Sys2Proof.Machine
end

