-- ==== Sys2Proof/Machine/Engine.lean ====
section
/-! DEFINITION. CPU control: NOP, HALT, STOP, DI, EI, PREFIX CB and the unassigned opcodes (40_engine.md R137 to R144).
Each meaning takes the state before the fetch, with PC at the instruction's own address. -/

namespace Sys2Proof.Machine

/-- HALT's handler (R138): halts when no enabled interrupt is pending, completes with no effect when one is and IME = 1, and
raises Unmodelled in the HALT-bug case (IME = 0; ei_pending does not count). -/
def State.haltOrRefuse (s : State) : Except Fault State :=
  if s.activeSources = 0 then .ok { s with halted := true }
  else if s.ime then .ok s
  else .error (.unmodelled 0x76 s.pc)

/-- EI's effect (R142). -/
def State.requestEnable (s : State) : State :=
  match s.cfg.eiDelay with
  | .zero => { s with ime := true }
  | .one => { s with eiPending := true }

/-- STOP's handler (R140). -/
def State.stopByPolicy (s : State) : Except Fault State :=
  match s.cfg.stopPolicy with
  | .refuse => .error (.unmodelled 0x10 s.pc)
  | .nop => .ok s

/-- The rule of a 0xCB sub-opcode by its fields (R143; 30_encoding.md R110). -/
def execSubOpcode (sub : Byte) (s : State) : Out :=
  match Bits.fieldX sub, r8OfField (Bits.fieldZ sub) with
  | 0, some r => shiftReg (shiftOfField (Bits.fieldY sub)) r s
  | 0, none => shiftMemHl (shiftOfField (Bits.fieldY sub)) s
  | 1, some r => bitReg (Bits.fieldY sub) r s
  | 1, none => bitMemHl (Bits.fieldY sub) s
  | 2, some r => resReg (Bits.fieldY sub) r s
  | 2, none => resMemHl (Bits.fieldY sub) s
  | _, some r => setReg8 (Bits.fieldY sub) r s
  | _, none => setMemHl (Bits.fieldY sub) s

/-- NOP (R137). -/
def execNop (s : State) : Out := s.retire 1 (.ok s)

/-- STOP (R140). -/
def execStop (_n : Byte) (s : State) : Out := s.retire 2 s.stopByPolicy

/-- HALT (R138). -/
def execHalt (s : State) : Out := s.retire 1 s.haltOrRefuse

/-- PREFIX CB (R143). -/
def execPrefixCb (sub : Byte) (s : State) : Out := execSubOpcode sub s

/-- ILLEGAL (R144). -/
def execIllegal (op : Byte) (s : State) : Out := s.complete (.error (.unmappedOpcode op s.pc))

/-- DI (R141). -/
def execDi (s : State) : Out := s.retire 1 (.ok s.disableInterrupts)

/-- EI (R142). -/
def execEi (s : State) : Out := s.retire 1 (.ok s.requestEnable)

end Sys2Proof.Machine
end

