-- ==== Sys2Proof/Machine/Load16.lean ====
section
/-! DEFINITION. 16-bit loads and stack operations (42_load16.md).
Each meaning takes the state before the fetch, with PC at the instruction's own address. -/

namespace Sys2Proof.Machine

/-- `LD rr,nn` (R191). -/
def ldPairImm (p : Pair) (nn : Word) (s : State) : Out := s.retire 3 (.ok (s.setPair p nn))

/-- `PUSH rr` (R195). -/
def pushPair (q : StackPair) (s : State) : Out := s.retire 1 (s.push16 (s.stackPair q))

/-- `POP rr` and `POP AF` (R196, R197). -/
def popPair (q : StackPair) (s : State) : Out :=
  s.retire 1 (do
    let (v, t) ← s.pop16
    .ok (t.setStackPair q (popValue q v)))

/-- LD BC,nn (R191). -/
def execLdBcNn (nn : Word) (s : State) : Out := ldPairImm .bc nn s

/-- LD (nn),SP (R192). -/
def execLdMemNnSp (nn : Word) (s : State) : Out := s.retire 3 (s.writeShort .little nn s.sp)

/-- LD DE,nn (R191). -/
def execLdDeNn (nn : Word) (s : State) : Out := ldPairImm .de nn s

/-- LD HL,nn (R191). -/
def execLdHlNn (nn : Word) (s : State) : Out := ldPairImm .hl nn s

/-- LD SP,nn (R191). -/
def execLdSpNn (nn : Word) (s : State) : Out := ldPairImm .sp nn s

/-- POP BC (R196). -/
def execPopBc (s : State) : Out := popPair .bc s

/-- PUSH BC (R195). -/
def execPushBc (s : State) : Out := pushPair .bc s

/-- POP DE (R196). -/
def execPopDe (s : State) : Out := popPair .de s

/-- PUSH DE (R195). -/
def execPushDe (s : State) : Out := pushPair .de s

/-- POP HL (R196). -/
def execPopHl (s : State) : Out := popPair .hl s

/-- PUSH HL (R195). -/
def execPushHl (s : State) : Out := pushPair .hl s

/-- POP AF (R197). -/
def execPopAf (s : State) : Out := popPair .af s

/-- PUSH AF (R195). -/
def execPushAf (s : State) : Out := pushPair .af s

/-- LD HL,SP+e (R194). -/
def execLdHlSpE (e : Byte) (s : State) : Out :=
  s.retire 2 (.ok { s.setPair .hl (s.sp + Bits.sext16 e) with f := addSpFlags s.sp e })

/-- LD SP,HL (R193). -/
def execLdSpHl (s : State) : Out := s.retire 1 (.ok (s.setPair .sp s.hl))

end Sys2Proof.Machine
end

