-- ==== Sys2Proof/Machine/Load8.lean ====
section
/-! DEFINITION. 8-bit loads and stores (41_load8.md). No flag is written.
Each meaning takes the state before the fetch, with PC at the instruction's own address. -/

namespace Sys2Proof.Machine

/-- `LD r,r'` (R160). -/
def ldRegReg (dst src : R8) (s : State) : Out := s.retire 1 (.ok (s.setR8 dst (s.r8 src)))

/-- `LD r,n` (R161). -/
def ldRegImm (dst : R8) (n : Byte) (s : State) : Out := s.retire 2 (.ok (s.setR8 dst n))

/-- `LD r,(HL)` (R162). -/
def ldRegMemHl (dst : R8) (s : State) : Out := s.retire 1 (.ok (s.setR8 dst (s.readByte s.hl)))

/-- `LD (HL),r` (R163). -/
def ldMemHlReg (r : R8) (s : State) : Out := s.retire 1 (s.writeByte s.hl (s.r8 r))

/-- LD (BC),A (R167). -/
def execLdMemBcA (s : State) : Out := s.retire 1 (s.writeByte s.bc s.a)

/-- LD B,n (R161). -/
def execLdBN (n : Byte) (s : State) : Out := ldRegImm .b n s

/-- LD A,(BC) (R165). -/
def execLdAMemBc (s : State) : Out := s.retire 1 (.ok (s.loadA s.bc))

/-- LD C,n (R161). -/
def execLdCN (n : Byte) (s : State) : Out := ldRegImm .c n s

/-- LD (DE),A (R168). -/
def execLdMemDeA (s : State) : Out := s.retire 1 (s.writeByte s.de s.a)

/-- LD D,n (R161). -/
def execLdDN (n : Byte) (s : State) : Out := ldRegImm .d n s

/-- LD A,(DE) (R166). -/
def execLdAMemDe (s : State) : Out := s.retire 1 (.ok (s.loadA s.de))

/-- LD E,n (R161). -/
def execLdEN (n : Byte) (s : State) : Out := ldRegImm .e n s

/-- LD (HL+),A (R175). -/
def execLdMemHlIncA (s : State) : Out := s.retire 1 (do let t ← s.writeByte s.hl s.a; .ok (t.setPair .hl (s.hl + 1)))

/-- LD H,n (R161). -/
def execLdHN (n : Byte) (s : State) : Out := ldRegImm .h n s

/-- LD A,(HL+) (R176). -/
def execLdAMemHlInc (s : State) : Out := s.retire 1 (.ok ((s.loadA s.hl).setPair .hl (s.hl + 1)))

/-- LD L,n (R161). -/
def execLdLN (n : Byte) (s : State) : Out := ldRegImm .l n s

/-- LD (HL-),A (R177). -/
def execLdMemHlDecA (s : State) : Out := s.retire 1 (do let t ← s.writeByte s.hl s.a; .ok (t.setPair .hl (s.hl - 1)))

/-- LD (HL),n (R164). -/
def execLdMemHlN (n : Byte) (s : State) : Out := s.retire 2 (s.writeByte s.hl n)

/-- LD A,(HL-) (R178). -/
def execLdAMemHlDec (s : State) : Out := s.retire 1 (.ok ((s.loadA s.hl).setPair .hl (s.hl - 1)))

/-- LD A,n (R161). -/
def execLdAN (n : Byte) (s : State) : Out := ldRegImm .a n s

/-- LD B,B (R160). -/
def execLdBB (s : State) : Out := ldRegReg .b .b s

/-- LD B,C (R160). -/
def execLdBC (s : State) : Out := ldRegReg .b .c s

/-- LD B,D (R160). -/
def execLdBD (s : State) : Out := ldRegReg .b .d s

/-- LD B,E (R160). -/
def execLdBE (s : State) : Out := ldRegReg .b .e s

/-- LD B,H (R160). -/
def execLdBH (s : State) : Out := ldRegReg .b .h s

/-- LD B,L (R160). -/
def execLdBL (s : State) : Out := ldRegReg .b .l s

/-- LD B,(HL) (R162). -/
def execLdBMemHl (s : State) : Out := ldRegMemHl .b s

/-- LD B,A (R160). -/
def execLdBA (s : State) : Out := ldRegReg .b .a s

/-- LD C,B (R160). -/
def execLdCB (s : State) : Out := ldRegReg .c .b s

/-- LD C,C (R160). -/
def execLdCC (s : State) : Out := ldRegReg .c .c s

/-- LD C,D (R160). -/
def execLdCD (s : State) : Out := ldRegReg .c .d s

/-- LD C,E (R160). -/
def execLdCE (s : State) : Out := ldRegReg .c .e s

/-- LD C,H (R160). -/
def execLdCH (s : State) : Out := ldRegReg .c .h s

/-- LD C,L (R160). -/
def execLdCL (s : State) : Out := ldRegReg .c .l s

/-- LD C,(HL) (R162). -/
def execLdCMemHl (s : State) : Out := ldRegMemHl .c s

/-- LD C,A (R160). -/
def execLdCA (s : State) : Out := ldRegReg .c .a s

/-- LD D,B (R160). -/
def execLdDB (s : State) : Out := ldRegReg .d .b s

/-- LD D,C (R160). -/
def execLdDC (s : State) : Out := ldRegReg .d .c s

/-- LD D,D (R160). -/
def execLdDD (s : State) : Out := ldRegReg .d .d s

/-- LD D,E (R160). -/
def execLdDE (s : State) : Out := ldRegReg .d .e s

/-- LD D,H (R160). -/
def execLdDH (s : State) : Out := ldRegReg .d .h s

/-- LD D,L (R160). -/
def execLdDL (s : State) : Out := ldRegReg .d .l s

/-- LD D,(HL) (R162). -/
def execLdDMemHl (s : State) : Out := ldRegMemHl .d s

/-- LD D,A (R160). -/
def execLdDA (s : State) : Out := ldRegReg .d .a s

/-- LD E,B (R160). -/
def execLdEB (s : State) : Out := ldRegReg .e .b s

/-- LD E,C (R160). -/
def execLdEC (s : State) : Out := ldRegReg .e .c s

/-- LD E,D (R160). -/
def execLdED (s : State) : Out := ldRegReg .e .d s

/-- LD E,E (R160). -/
def execLdEE (s : State) : Out := ldRegReg .e .e s

/-- LD E,H (R160). -/
def execLdEH (s : State) : Out := ldRegReg .e .h s

/-- LD E,L (R160). -/
def execLdEL (s : State) : Out := ldRegReg .e .l s

/-- LD E,(HL) (R162). -/
def execLdEMemHl (s : State) : Out := ldRegMemHl .e s

/-- LD E,A (R160). -/
def execLdEA (s : State) : Out := ldRegReg .e .a s

/-- LD H,B (R160). -/
def execLdHB (s : State) : Out := ldRegReg .h .b s

/-- LD H,C (R160). -/
def execLdHC (s : State) : Out := ldRegReg .h .c s

/-- LD H,D (R160). -/
def execLdHD (s : State) : Out := ldRegReg .h .d s

/-- LD H,E (R160). -/
def execLdHE (s : State) : Out := ldRegReg .h .e s

/-- LD H,H (R160). -/
def execLdHH (s : State) : Out := ldRegReg .h .h s

/-- LD H,L (R160). -/
def execLdHL (s : State) : Out := ldRegReg .h .l s

/-- LD H,(HL) (R162). -/
def execLdHMemHl (s : State) : Out := ldRegMemHl .h s

/-- LD H,A (R160). -/
def execLdHA (s : State) : Out := ldRegReg .h .a s

/-- LD L,B (R160). -/
def execLdLB (s : State) : Out := ldRegReg .l .b s

/-- LD L,C (R160). -/
def execLdLC (s : State) : Out := ldRegReg .l .c s

/-- LD L,D (R160). -/
def execLdLD (s : State) : Out := ldRegReg .l .d s

/-- LD L,E (R160). -/
def execLdLE (s : State) : Out := ldRegReg .l .e s

/-- LD L,H (R160). -/
def execLdLH (s : State) : Out := ldRegReg .l .h s

/-- LD L,L (R160). -/
def execLdLL (s : State) : Out := ldRegReg .l .l s

/-- LD L,(HL) (R162). -/
def execLdLMemHl (s : State) : Out := ldRegMemHl .l s

/-- LD L,A (R160). -/
def execLdLA (s : State) : Out := ldRegReg .l .a s

/-- LD (HL),B (R163). -/
def execLdMemHlB (s : State) : Out := ldMemHlReg .b s

/-- LD (HL),C (R163). -/
def execLdMemHlC (s : State) : Out := ldMemHlReg .c s

/-- LD (HL),D (R163). -/
def execLdMemHlD (s : State) : Out := ldMemHlReg .d s

/-- LD (HL),E (R163). -/
def execLdMemHlE (s : State) : Out := ldMemHlReg .e s

/-- LD (HL),H (R163). -/
def execLdMemHlH (s : State) : Out := ldMemHlReg .h s

/-- LD (HL),L (R163). -/
def execLdMemHlL (s : State) : Out := ldMemHlReg .l s

/-- LD (HL),A (R163). -/
def execLdMemHlA (s : State) : Out := ldMemHlReg .a s

/-- LD A,B (R160). -/
def execLdAB (s : State) : Out := ldRegReg .a .b s

/-- LD A,C (R160). -/
def execLdAC (s : State) : Out := ldRegReg .a .c s

/-- LD A,D (R160). -/
def execLdAD (s : State) : Out := ldRegReg .a .d s

/-- LD A,E (R160). -/
def execLdAE (s : State) : Out := ldRegReg .a .e s

/-- LD A,H (R160). -/
def execLdAH (s : State) : Out := ldRegReg .a .h s

/-- LD A,L (R160). -/
def execLdAL (s : State) : Out := ldRegReg .a .l s

/-- LD A,(HL) (R162). -/
def execLdAMemHl (s : State) : Out := ldRegMemHl .a s

/-- LD A,A (R160). -/
def execLdAA (s : State) : Out := ldRegReg .a .a s

/-- LDH (n),A (R172). -/
def execLdhMemNA (n : Byte) (s : State) : Out := s.retire 2 (s.writeByte (highPage n) s.a)

/-- LD (C),A (R174). -/
def execLdMemCA (s : State) : Out := s.retire 1 (s.writeByte (highPage s.c) s.a)

/-- LD (nn),A (R170). -/
def execLdMemNnA (nn : Word) (s : State) : Out := s.retire 3 (s.writeByte nn s.a)

/-- LDH A,(n) (R171). -/
def execLdhAMemN (n : Byte) (s : State) : Out := s.retire 2 (.ok (s.loadA (highPage n)))

/-- LD A,(C) (R173). -/
def execLdAMemC (s : State) : Out := s.retire 1 (.ok (s.loadA (highPage s.c)))

/-- LD A,(nn) (R169). -/
def execLdAMemNn (nn : Word) (s : State) : Out := s.retire 3 (.ok (s.loadA nn))

end Sys2Proof.Machine
end

