-- ==== Sys2Proof/Machine/Fetch.lean ====
section
/-! DEFINITION. Fetch and decode (40_engine.md R132 to R134): the opcode byte, the PC increment, the test of IMPLEMENTED, the
operand bytes in address order, in the order of faults of 60_exceptions.md R348. -/

namespace Sys2Proof.Machine

/-- The operand bytes of an instruction at PC (R134): as many as its descriptor counts. -/
def State.operandBytes (s : State) : Nat → Except Fault (List Byte)
  | 0 => .ok []
  | 1 => do
    let a1 ← s.addrAdd s.pc 1
    .ok [s.readByte a1]
  | _ => do
    let a1 ← s.addrAdd s.pc 1
    let a2 ← s.addrAdd s.pc 2
    .ok [s.readByte a1, s.readByte a2]

/-- A primary opcode outside IMPLEMENTED (30_encoding.md R115); 0x00 never counts as one (60_exceptions.md R342; log entry
21). -/
def State.unimplementedOp (s : State) (op : Byte) : Bool := op != 0x00 && s.cfg.unimplemented.contains op

/-- An opcode, with its first operand byte if it is 0xCB, that is outside IMPLEMENTED (30_encoding.md R115). -/
def State.unimplementedSub (s : State) (op : Byte) (operands : List Byte) : Bool :=
  op == 0xCB && operands.any (fun sub => s.cfg.unimplementedCb.contains sub)

/-- The instruction at PC, or the fault its fetch or decode raises: the opcode byte and the PC-advance (R132), whose PC before
the increment is the instruction's address, then decode (R133), then the operand bytes (R134). An unassigned opcode is the instruction `illegal`, whose
meaning raises UnmappedOpcode. The last case cannot arise: the bytes read are those the descriptor counts. -/
def State.fetch (s : State) : Except Fault Instr := do
  let op := s.readByte s.pc
  let (addr, _) ← s.advancePc
  if s.unimplementedOp op then .error (.unmappedOpcode op addr)
  else
    let operands ← s.operandBytes (operandCount op)
    if s.unimplementedSub op operands then .error (.unmappedOpcode op addr)
    else
      match decode (op :: operands) with
      | .ok (i, _) => .ok i
      | .error _ => .error (.unmappedOpcode op addr)

end Sys2Proof.Machine
end

