-- ==== Sys2Proof/Machine/Interrupt.lean ====
section
/-! DEFINITION. The interrupt controller (60_exceptions.md R350 to R357). Service clears the source's IF bit and calls its hook;
it saves nothing, vectors nowhere and leaves IME as it is (R355). -/

namespace Sys2Proof.Machine

/-- INT_HOOK at its default, the identity for every source (R354; log entry 6). -/
def intHook (_ : Nat) (s : State) : State := s

/-- One turn of the controller's loop: source `n` is serviced if it was active when the phase began (R352). A fault that its
store raises or its hook records ends the phase there: it is the first raised (R348; log entry 20). -/
def serviceSource (hook : Nat → State → State) (active : Byte) (s : State) (n : Nat) : Except Fault State := do
  if active.getLsbD n then
    let t ← s.clearPending n
    match (hook n t).fault with
    | none => .ok (hook n t)
    | some f => .error f
  else .ok s

/-- The interrupt-controller phase (R352): nothing with IME = 0, else every active source in ascending bit order. -/
def icPhase (hook : Nat → State → State) (s : State) : Except Fault State :=
  if s.ime then [0, 1, 2, 3, 4].foldlM (serviceSource hook s.activeSources) s else .ok s

end Sys2Proof.Machine
end

