-- ==== Sys2Proof/Machine/Ppu.lean ====
section
/-! DEFINITION. The PPU timing state machine (60_exceptions.md R360 to R368): one transition per step. -/

namespace Sys2Proof.Machine

/-- `LYWrite(v)` (R367): a direct store into the backing buffer. -/
def State.lyWrite (s : State) (v : Nat) : State := s.pokeByte s.cfg.params.lyAddr (BitVec.ofNat 8 v)

/-- The HBlank step (R363). -/
def ppuHblank (s : State) : State :=
  State.lyWrite { s with
    ppuLy := s.ppuLy + 1
    ppuMode := if s.cfg.params.ppuVblankFirst ≤ s.ppuLy + 1 then .vblank else s.ppuMode } (s.ppuLy + 1)

/-- The VBlank step (R364): LY is written once, after the wrap (90_conflicts.md C10). -/
def ppuVblank (s : State) : State :=
  if s.ppuLy + 1 = s.cfg.params.ppuVblankLast + 1 then
    State.lyWrite { s with ppuLy := 0, ppuMode := .oamRead, ppuSub := 0 } 0
  else State.lyWrite { s with ppuLy := s.ppuLy + 1 } (s.ppuLy + 1)

/-- The OAMRead step (R365). -/
def ppuOamRead (s : State) : State :=
  if s.ppuSub + 1 = s.cfg.params.ppuOamSteps then { s with ppuSub := 0, ppuMode := .oamVramRead }
  else { s with ppuSub := s.ppuSub + 1 }

/-- The OAMVRAMRead step (R366). -/
def ppuOamVramRead (s : State) : State :=
  if s.ppuSub + 1 = s.cfg.params.ppuVramSteps then { s with ppuSub := 0, ppuMode := .hblank }
  else { s with ppuSub := s.ppuSub + 1 }

/-- The PPU phase (R362). -/
def ppuPhase (s : State) : State :=
  match s.ppuMode with
  | .hblank => ppuHblank s
  | .vblank => ppuVblank s
  | .oamRead => ppuOamRead s
  | .oamVramRead => ppuOamVramRead s

end Sys2Proof.Machine
end

