-- ==== Sys2Proof/Machine/Cycle.lean ====
section
/-! DEFINITION. The phases of a step and their composition (40_engine.md R130, R131, R136, R139). -/

namespace Sys2Proof.Machine

/-- The end of the CPU phase (R131): an EI pending since before the phase, and still pending, takes effect. -/
def State.commitEi (s : State) (wasPending : Bool) : State :=
  if wasPending && s.eiPending then s.enableInterrupts else s

/-- The CPU phase's halted branch (R139): nothing is fetched; an enabled pending interrupt wakes the CPU, whatever IME. -/
def State.wake (s : State) : State := if s.activeSources = 0 then s else { s with halted := false }

/-- The part of a step after the instruction (R130): the EI commit, the interrupt controller, the PPU. -/
def State.finishPhases (hook : Nat → State → State) (wasPending : Bool) (s : State) : Except Fault State := do
  let t ← icPhase hook (s.commitEi wasPending)
  .ok (ppuPhase t)

/-- The rest of a step begun in `s` whose CPU phase answered `r`: no later phase runs once a fault is raised, and a step that
raises one is `s` with only that fault recorded (R136; 60_exceptions.md R347, R348). -/
def State.afterInstr (hook : Nat → State → State) (s : State) (r : Out) : Out :=
  match r with
  | .next t =>
    match t.fault with
    | some f => .next (s.takeFault f)
    | none => s.complete (t.finishPhases hook s.eiPending)
  | .fault f => .fault f
  | .refused x => .refused x

/-- One step (R130) with the interrupt hook `hook` (60_exceptions.md R354); a state with a recorded fault has none. -/
def stepWith (hook : Nat → State → State) (s : State) : Out :=
  match s.fault with
  | some f => .fault f
  | none =>
    if s.halted then s.afterInstr hook (.next s.wake)
    else
      match s.fetch with
      | .ok i => s.afterInstr hook (exec i s)
      | .error f => .next (s.takeFault f)

end Sys2Proof.Machine
end

