-- ==== Sys2Proof/Machine/Step.lean ====
section
/-! DEFINITION. One step at the default hook, and the placing of an instruction where the next step fetches it. -/

namespace Sys2Proof.Machine

/-- One step of the CORE (40_engine.md R130), with INT_HOOK at its default, the identity (60_exceptions.md R354). -/
def step (s : State) : Host.Outcome State Fault Refusal := stepWith intHook s

/-- `s` with the instruction that the table number gives at PC: in the cartridge image if PC is in the ROM window, in memory
above it. It stands for the host's load (log entries 4 and 19); a recorded fault and the halted state, in which nothing is
fetched, are cleared. -/
def State.withFetchWord (s : State) (nbits w : Nat) : State :=
  State.placeBytes { s with halted := false, fault := none } s.pc (tableBytes nbits w)

end Sys2Proof.Machine
end

