-- ==== Sys2Proof/Safety.lean ====
section
/-! DEFINITION. What counts as a safe state: no fault recorded, and the invariants that the spec gives for every state
reachable from reset. After them the vocabulary of the statements: addresses, flags, stores and field codes said in plain
arithmetic, beside the operations that compute them. -/

namespace Sys2Proof.Machine

/-- No fault is recorded: the state has a step (40_engine.md R130). -/
abbrev State.Safe (s : State) : Prop := s.fault = none

/-- Both byte stores are in canonical form, the model's own choice (log entries 4 and 7). -/
abbrev State.MemoryCanonical (s : State) : Prop :=
  Mem.wf (memDefault s.cfg.params) s.mem = true ∧ Mem.wf romDefault s.rom = true

/-- Bits 3..0 of F are 0 (10_state.md R27). -/
abbrev State.FlagNibbleZero (s : State) : Prop := s.f &&& 0x0F = 0

/-- The echo invariant (20_memory.md R66). -/
def State.EchoMirrored (s : State) : Prop :=
  ∀ k : Nat, k < s.cfg.params.echoLen →
    s.readByte (s.cfg.params.wramBase + BitVec.ofNat 16 k) = s.readByte (s.cfg.params.echoBase + BitVec.ofNat 16 k)

/-- The PPU's counters are in their ranges for the mode (10_state.md R36, R37; 60_exceptions.md R363 to R366). -/
def State.PpuInRange (s : State) : Prop :=
  match s.ppuMode with
  | .hblank => s.ppuLy < s.cfg.params.ppuVblankFirst ∧ s.ppuSub = 0
  | .vblank => s.cfg.params.ppuVblankFirst ≤ s.ppuLy ∧ s.ppuLy ≤ s.cfg.params.ppuVblankLast ∧ s.ppuSub = 0
  | .oamRead => s.ppuLy = 0 ∧ s.ppuSub < s.cfg.params.ppuOamSteps
  | .oamVramRead => s.ppuLy = 0 ∧ s.ppuSub < s.cfg.params.ppuVramSteps

/-- ei_pending is 0 when EI_DELAY = 0 (10_state.md R33). -/
def State.EiPendingAllowed (s : State) : Prop := s.cfg.eiDelay = .zero → s.eiPending = false

/-- The invariant of the CORE, which every step keeps, at legal parameters (log entry 26). -/
structure State.Inv (s : State) : Prop where
  params : s.cfg.params.Legal
  memory : s.MemoryCanonical
  flags : s.FlagNibbleZero
  echo : s.EchoMirrored
  ppu : s.PpuInRange
  ei : s.EiPendingAllowed

/-- The end of a run for a claim about a program (70_reset_and_hazards.md R402): the machine itself keeps stepping. -/
def State.EndOfRun (endPc : Word) (s : State) : Prop := s.pc = endPc ∧ s.halted = false ∧ s.fault = none

/-! The vocabulary of the statements. -/

end Sys2Proof.Machine

namespace Sys2Proof

/-- The byte of a number. -/
abbrev byte (n : Nat) : Byte := BitVec.ofNat 8 n

/-- The register codes of the r8 table (30_encoding.md R103). -/
def R8.code : R8 → Nat
  | .b => 0
  | .c => 1
  | .d => 2
  | .e => 3
  | .h => 4
  | .l => 5
  | .a => 7

/-- The codes of the rp table. -/
def Pair.code : Pair → Nat
  | .bc => 0
  | .de => 1
  | .hl => 2
  | .sp => 3

/-- The codes of the rp2 table. -/
def StackPair.code : StackPair → Nat
  | .bc => 0
  | .de => 1
  | .hl => 2
  | .af => 3

/-- The codes of the cc table. -/
def Cond.code : Cond → Nat
  | .nz => 0
  | .z => 1
  | .nc => 2
  | .c => 3

/-- The codes of the rot table. -/
def ShiftOp.code : ShiftOp → Nat
  | .rlc => 0
  | .rrc => 1
  | .rl => 2
  | .rr => 3
  | .sla => 4
  | .sra => 5
  | .swap => 6
  | .srl => 7

/-- `x` is an echo partner of `a` (20_memory.md R65): at the defaults of 00_scope.md R7 it is `a + 0x2000` for `a` in
0xC000..0xDDFF and `a - 0x2000` for `a` in 0xE000..0xFDFF. Past 0xFFFF its address is modulo 65,536, by `addr16` with
ADDR_OVERFLOW = wrap (00_scope.md R14). -/
abbrev Params.Mirrors (p : Params) (a x : Word) : Prop :=
  (p.wramBase.toNat ≤ a.toNat ∧ a.toNat < p.wramBase.toNat + p.echoLen ∧
      x.toNat = (p.echoBase.toNat + (a.toNat - p.wramBase.toNat)) % 65536) ∨
    (p.echoBase.toNat ≤ a.toNat ∧ a.toNat < p.echoBase.toNat + p.echoLen ∧
      x.toNat = (p.wramBase.toNat + (a.toNat - p.echoBase.toNat)) % 65536)

end Sys2Proof

namespace Sys2Proof.Machine

/-- `addr16(v)` returns `w` (00_scope.md R14): `v` modulo 65,536, and in range where ADDR_OVERFLOW = fault. -/
abbrev State.Addr (s : State) (v : Int) (w : Word) : Prop :=
  (w.toNat : Int) = v % 65536 ∧ (s.cfg.addrOverflow = .fault → 0 ≤ v ∧ v ≤ 0xFFFF)

/-- `addr16(v)` raises AddressRange (00_scope.md R14). -/
abbrev State.OutOfRange (s : State) (v : Int) : Prop := s.cfg.addrOverflow = .fault ∧ (v < 0 ∨ 0xFFFF < v)

/-- `next = addr16(addr + len)` is `w`, for the instruction at PC (00_scope.md R15). -/
abbrev State.Next (s : State) (len : Nat) (w : Word) : Prop := s.Addr ((s.pc.toNat : Int) + len) w

/-- `a` lies in the ROM window, 0x0000 to ROM_WINDOW_END, by default 0x7FFF (00_scope.md R7; 20_memory.md R63). -/
abbrev State.InRom (s : State) (a : Word) : Prop := a.toNat ≤ s.cfg.params.romWindowEnd.toNat

/-- What one line of EchoMirror raises for a store at `a`: with ADDR_OVERFLOW = fault, AddressRange of a mirror address past
0xFFFF (00_scope.md R14; 20_memory.md R65, R69). -/
def State.echoFault (s : State) (source target a : Word) : Option Fault :=
  if s.cfg.addrOverflow = .fault ∧ source.toNat ≤ a.toNat ∧ a.toNat < source.toNat + s.cfg.params.echoLen ∧
      0xFFFF < target.toNat + (a.toNat - source.toNat) then
    some (.addressRange (target.toNat + (a.toNat - source.toNat) : Nat))
  else none

/-- What `MemWrite(a, 1, v)` raises, if anything: RomWrite in the ROM window with ROM_WRITE = fault (20_memory.md R64), above it
what EchoMirror raises, its first line first (R65). At the default parameters no mirror address leaves the address space, so only
RomWrite remains. -/
def State.storeFault (s : State) (a : Word) (v : Byte) : Option Fault :=
  if s.InRom a then
    match s.cfg.romWrite with
    | .ignore => none
    | .fault => some (.romWrite a v)
  else
    (s.echoFault s.cfg.params.wramBase s.cfg.params.echoBase a).or
      (s.echoFault s.cfg.params.echoBase s.cfg.params.wramBase a)

/-- A store at `a` shows at `x`: neither is in the ROM window, and `x` is `a` or an echo partner of it. -/
abbrev State.Shows (s : State) (a x : Word) : Prop := ¬s.InRom a ∧ ¬s.InRom x ∧ (x = a ∨ s.cfg.params.Mirrors a x)

/-- `t` is `s` after `MemWrite(a, 1, v)` that raises nothing (20_memory.md R64, R65): every byte of memory, by address, and
nothing but memory differs. In the ROM window nothing changes. -/
def State.StoredByte (s t : State) (a : Word) (v : Byte) : Prop :=
  t = { s with mem := t.mem } ∧
    (s.InRom a → t = s) ∧
    ∀ x : Word, (s.Shows a x → t.readByte x = v) ∧ (¬s.Shows a x → t.readByte x = s.readByte x)

/-- `t` is `s` after the direct store of `v` at `a` into the backing buffer, without the mirror (60_exceptions.md R367). -/
def State.PokedByte (s t : State) (a : Word) (v : Byte) : Prop :=
  t = { s with mem := t.mem } ∧ ∀ x : Word, t.readByte x = if x = a ∧ ¬s.InRom a then v else s.readByte x

/-- `t` is `s` after `MemWrite(a, 2, v)` that raises nothing, `a1` being `addr16(a + 1)`: the low byte of `v` at `a`, then
its high byte at `a1` (20_memory.md R68). -/
def State.StoredShort (s t : State) (a a1 v : Word) : Prop :=
  ∃ m : State, s.StoredByte m a (byte (v.toNat % 256)) ∧ m.StoredByte t a1 (byte (v.toNat / 256))

/-- The four flags of a byte F and its unused bits, at once: F is `z n h c` in bits 7 to 4 and `low` below (10_state.md R26). -/
abbrev FlagsAre (f : Byte) (z n h c : Bool) (low : Nat) : Prop :=
  f.toNat = 128 * z.toNat + 64 * n.toNat + 32 * h.toNat + 16 * c.toNat + low

/-- Bits 7, 6, 5 and 4 of F, and bits 3..0. -/
def bitZ (f : Byte) : Bool := f.toNat / 128 % 2 == 1
def bitN (f : Byte) : Bool := f.toNat / 64 % 2 == 1
def bitH (f : Byte) : Bool := f.toNat / 32 % 2 == 1
def bitC (f : Byte) : Bool := f.toNat / 16 % 2 == 1
def lowNibble (f : Byte) : Nat := f.toNat % 16

/-- A condition code as a fact about F (47_control.md R310). -/
def Holds (k : Cond) (f : Byte) : Prop :=
  match k with
  | .nz => bitZ f = false
  | .z => bitZ f = true
  | .nc => bitC f = false
  | .c => bitC f = true

/-- The bytes stand in memory from PC on, at the addresses that `addr16` gives (40_engine.md R132, R134). -/
def State.BytesAtPc (s : State) (bytes : List Byte) : Prop :=
  ∀ (k : Nat) (v : Byte), bytes[k]? = some v → ∃ a : Word, s.Next k a ∧ s.readByte a = v

/-- The opcode, and for 0xCB its sub-opcode, is in IMPLEMENTED (30_encoding.md R115), in which 0x00 always is (60_exceptions.md
R342). -/
def State.Implements (s : State) (bytes : List Byte) : Prop :=
  (∀ op, bytes[0]? = some op → op = 0x00 ∨ op ∉ s.cfg.unimplemented) ∧
    (∀ sub, bytes[0]? = some 0xCB → bytes[1]? = some sub → sub ∉ s.cfg.unimplementedCb)

end Sys2Proof.Machine
end

