-- ==== Sys2Proof/Certificates/Slice0/Obligations.lean ====
section
/-! DEFINITION. The statements for the provers. Each docstring names the rules of spec/ it formalises. The spec marks some of
its rules as its own decisions (D<n>) or as general knowledge; a statement cites such a rule as the spec's, and a statement
that rests on an inference of the spec or on a choice of the model has basis 'derived' and says so. Results are said in plain
arithmetic on numbers; an answer names the whole next state, so everything it does not name is unchanged. A statement over all
states holds at every value of the parameters of 00_scope.md R7 that `State.cfg` carries; where a rule writes a default value
(0x7FFF, 0xFF44, ...), the statement names the parameter, and `defaultParams` gives its default. -/

namespace Sys2Proof.Spec

open Sys2Proof.Machine

/-- `s` with only the fault recorded: a raised fault (60_exceptions.md R347). -/
def Raises (s : State) (r : Out) (f : Fault) : Prop := r = .next { s with fault := some f }

/-- A one-byte store instruction `len` bytes long: what the store raises, or the store at `a` and then `done`, with PC after it. -/
def StoreAnswer (s : State) (i : Instr) (len : Nat) (a : Word) (v : Byte) (done : State → State) : Prop :=
  (∀ f, s.storeFault a v = some f → Raises s (exec i s) f) ∧
    ∀ nxt, s.Next len nxt → s.storeFault a v = none →
      ∃ t, s.StoredByte t a v ∧ exec i s = .next { done t with pc := nxt }

/-- The answer `r` to a two-byte store at `a`, begun in `s0` and made from `s`: the fault of the first byte, of the address
`addr16(a + 1)`, of the second byte, or the store and then `done` (20_memory.md R68). -/
def ShortStoreAnswer (s0 s : State) (a v : Word) (r : Out) (done : State → State) : Prop :=
  (∀ f, s.storeFault a (byte (v.toNat % 256)) = some f → Raises s0 r f) ∧
    (s.storeFault a (byte (v.toNat % 256)) = none →
      (s.OutOfRange (a.toNat + 1) → Raises s0 r (.addressRange (a.toNat + 1))) ∧
      ∀ a1, s.Addr (a.toNat + 1) a1 →
        (∀ f, s.storeFault a1 (byte (v.toNat / 256)) = some f → Raises s0 r f) ∧
          (s.storeFault a1 (byte (v.toNat / 256)) = none → ∃ t, s.StoredShort t a a1 v ∧ r = .next (done t)))

/-- The answer `r` to `Push16(v)` from `s` and then `done` (42_load16.md R190). -/
def PushAnswer (s : State) (v : Word) (r : Out) (done : State → State) : Prop :=
  (s.OutOfRange ((s.sp.toNat : Int) - 2) → Raises s r (.addressRange ((s.sp.toNat : Int) - 2))) ∧
    ∀ sp, s.Addr ((s.sp.toNat : Int) - 2) sp → ShortStoreAnswer s { s with sp := sp } sp v r done

/-- The answer `r` to `Pop16()` from `s` and then `done` on the popped word and the state with SP raised (42_load16.md
R190). -/
def PopAnswer (s : State) (r : Out) (done : Word → State → State) : Prop :=
  (s.OutOfRange (s.sp.toNat + 1) → Raises s r (.addressRange (s.sp.toNat + 1))) ∧
    ∀ sp1, s.Addr (s.sp.toNat + 1) sp1 →
      (s.OutOfRange (s.sp.toNat + 2) → Raises s r (.addressRange (s.sp.toNat + 2))) ∧
        ∀ sp2, s.Addr (s.sp.toNat + 2) sp2 →
          ∃ w : Word, w.toNat = 256 * (s.readByte sp1).toNat + (s.readByte s.sp).toNat ∧
            r = .next (done w { s with sp := sp2 })

/-- An ALU operation with the code `code` of the alu table in its three operand forms: encoding, and the result `R` of the
operand (43_alu8.md). -/
def AluForms (k : AluOp) (code : Nat) (R : State → Byte → State → Prop) : Prop :=
  ∀ (s : State) (nxt : Word) (rest : List Byte),
    (∀ r : R8,
      decode (byte (0x80 + 8 * code + r.code) :: rest) = .ok (.ofAluReg k r, rest) ∧
        (s.Next 1 nxt → ∃ t, exec (.ofAluReg k r) s = .next { t with pc := nxt } ∧ R s (s.r8 r) t)) ∧
    (decode (byte (0x86 + 8 * code) :: rest) = .ok (.ofAluMemHl k, rest) ∧
      (s.Next 1 nxt → ∃ t, exec (.ofAluMemHl k) s = .next { t with pc := nxt } ∧ R s (s.readByte s.hl) t)) ∧
    ∀ n : Byte,
      decode (byte (0xC6 + 8 * code) :: n :: rest) = .ok (.ofAluImm k n, rest) ∧
        (s.Next 2 nxt → ∃ t, exec (.ofAluImm k n) s = .next { t with pc := nxt } ∧ R s n t)

/-- `(A, F) <- Add8(A, v, c)` (43_alu8.md R210). -/
def Adds (c : Nat) (s : State) (v : Byte) (t : State) : Prop :=
  t = { s with a := t.a, f := t.f } ∧
    t.a.toNat = (s.a.toNat + v.toNat + c) % 256 ∧
    FlagsAre t.f (decide (t.a.toNat = 0)) false (decide (s.a.toNat % 16 + v.toNat % 16 + c > 15))
      (decide (s.a.toNat + v.toNat + c > 255)) 0

/-- `(A, F) <- Sub8(A, v, c)` (43_alu8.md R210). -/
def Subtracts (c : Nat) (s : State) (v : Byte) (t : State) : Prop :=
  t = { s with a := t.a, f := t.f } ∧
    t.a.toNat = (s.a.toNat + 256 - (v.toNat + c)) % 256 ∧
    FlagsAre t.f (decide (t.a.toNat = 0)) true (decide (s.a.toNat % 16 < v.toNat % 16 + c))
      (decide (s.a.toNat < v.toNat + c)) 0

/-- The flags of a comparison of A with v; nothing else changes (43_alu8.md R232). -/
def Compares (s : State) (v : Byte) (t : State) : Prop :=
  t = { s with f := t.f } ∧
    FlagsAre t.f (decide (s.a = v)) true (decide (s.a.toNat % 16 < v.toNat % 16)) (decide (s.a.toNat < v.toNat)) 0

/-- A bitwise operation on A: bit j of the result is `op` of the bits j, and Hf is `h` (43_alu8.md R223 to R231). -/
def Combines (op : Bool → Bool → Bool) (h : Bool) (s : State) (v : Byte) (t : State) : Prop :=
  t = { s with a := t.a, f := t.f } ∧
    (∀ j, j < 8 → t.a.toNat.testBit j = op (s.a.toNat.testBit j) (v.toNat.testBit j)) ∧
    FlagsAre t.f (decide (t.a.toNat = 0)) false h false 0

/-- `Inc8(v)`: the result `r` and the flags `fl` from the flags `f` before (10_state.md R29). -/
def Incs (v f r fl : Byte) : Prop :=
  r.toNat = (v.toNat + 1) % 256 ∧
    FlagsAre fl (decide (r.toNat = 0)) false (decide (v.toNat % 16 = 15)) (bitC f) (lowNibble f)

/-- `Dec8(v)` (10_state.md R30). -/
def Decs (v f r fl : Byte) : Prop :=
  r.toNat = (v.toNat + 255) % 256 ∧
    FlagsAre fl (decide (r.toNat = 0)) true (decide (v.toNat % 16 = 0)) (bitC f) (lowNibble f)

/-- `sext_16(b)` as a number (00_scope.md R11). -/
def sext (b : Byte) : Nat := if b.toNat < 128 then b.toNat else b.toNat + 0xFF00

/-- `sint_8(b)` (00_scope.md R11). -/
def sint (b : Byte) : Int := if b.toNat < 128 then b.toNat else (b.toNat : Int) - 256

/-- The flags of `SP + e` (44_alu16.md R263; 42_load16.md R194). -/
def SpAddFlags (sp : Word) (e fl : Byte) : Prop :=
  FlagsAre fl false false (decide (sp.toNat % 16 + e.toNat % 16 > 15)) (decide (sp.toNat % 256 + e.toNat > 255)) 0

/-- `Shift(k, v)` with the carry flag `cy` before: the result `r` and the carry-out `c` (45_rotate_shift.md R279). -/
def Shifts (k : ShiftOp) (v : Byte) (cy : Bool) (r : Byte) (c : Bool) : Prop :=
  match k with
  | .rlc => c.toNat = v.toNat / 128 ∧ r.toNat = 2 * v.toNat % 256 + c.toNat
  | .rrc => c.toNat = v.toNat % 2 ∧ r.toNat = v.toNat / 2 + 128 * c.toNat
  | .rl => c.toNat = v.toNat / 128 ∧ r.toNat = 2 * v.toNat % 256 + cy.toNat
  | .rr => c.toNat = v.toNat % 2 ∧ r.toNat = v.toNat / 2 + 128 * cy.toNat
  | .sla => c.toNat = v.toNat / 128 ∧ r.toNat = 2 * v.toNat % 256
  | .sra => c.toNat = v.toNat % 2 ∧ r.toNat = v.toNat / 2 + v.toNat / 128 * 128
  | .swap => c = false ∧ r.toNat = v.toNat % 16 * 16 + v.toNat / 16
  | .srl => c.toNat = v.toNat % 2 ∧ r.toNat = v.toNat / 2

/-- `v & (0xFF ^ (1 << b))` as a number. -/
def without (v : Byte) (b : Nat) : Nat := v.toNat - 2 ^ b * (v.toNat / 2 ^ b % 2)

/-- `v | (1 << b)` as a number. -/
def with1 (v : Byte) (b : Nat) : Nat := v.toNat + 2 ^ b * (1 - v.toNat / 2 ^ b % 2)

/-- `MemRead(IF_ADDR, 1)`. -/
def pendingByte (s : State) : Byte := s.readByte s.cfg.params.ifAddr

/-- `IE & IF & 0x1F` (60_exceptions.md R350, R352). -/
def active (s : State) : Byte := s.readByte s.cfg.params.ieAddr &&& pendingByte s &&& 0x1F

/-- One turn of the interrupt controller's loop on source `n` from `s`, with the result `r` (60_exceptions.md R352): a source
not active is passed over; an active one has its IF bit cleared by a `MemWrite` and then its hook called. A fault of the store or
one that the hook records is the turn's. -/
def Serviced (hook : Nat → State → State) (act : Byte) (n : Nat) (s : State) (r : Except Fault State) : Prop :=
  (act.toNat.testBit n = false → r = .ok s) ∧
    (∀ f, act.toNat.testBit n = true → s.storeFault s.cfg.params.ifAddr (byte (without (pendingByte s) n)) = some f →
      r = .error f) ∧
    (act.toNat.testBit n = true → s.storeFault s.cfg.params.ifAddr (byte (without (pendingByte s) n)) = none →
      ∃ u, s.StoredByte u s.cfg.params.ifAddr (byte (without (pendingByte s) n)) ∧
        ((hook n u).fault = none → r = .ok (hook n u)) ∧ ∀ f, (hook n u).fault = some f → r = .error f)

/-- The loop over the sources in turn: it ends at the first fault (60_exceptions.md R348). -/
def ServicedInTurn (hook : Nat → State → State) (act : Byte) : List Nat → State → Except Fault State → Prop
  | [], s, r => r = .ok s
  | n :: ns, s, r =>
    ∃ q, Serviced hook act n s q ∧ (∀ t, q = .ok t → ServicedInTurn hook act ns t r) ∧ ∀ f, q = .error f → r = .error f

/-- IO_DEFAULTS as 70_reset_and_hazards.md R392 lists it: the left column of its table. -/
def soundTable : List (Nat × Byte) :=
  [(0xFF05, 0x00), (0xFF06, 0x00), (0xFF07, 0x00), (0xFF10, 0x80), (0xFF11, 0xBF), (0xFF12, 0xF3), (0xFF14, 0xBF),
   (0xFF16, 0x3F), (0xFF17, 0x00), (0xFF19, 0xBF), (0xFF1A, 0x7F), (0xFF1B, 0xFF), (0xFF1C, 0x9F)]

/-- The right column of that table. -/
def lcdTable : List (Nat × Byte) :=
  [(0xFF1E, 0xBF), (0xFF20, 0xFF), (0xFF21, 0x00), (0xFF22, 0x00), (0xFF23, 0xBF), (0xFF24, 0x77), (0xFF25, 0xF3),
   (0xFF26, 0xF1), (0xFF40, 0x91), (0xFF42, 0x00), (0xFF43, 0x00), (0xFF45, 0x00), (0xFF47, 0xFC), (0xFF48, 0xFF),
   (0xFF49, 0xFF), (0xFF4A, 0x00), (0xFF4B, 0x00), (0xFFFF, 0x00)]

/-- The numeric parameters at the defaults that 00_scope.md R7 lists. -/
def defaultParams : Params where
  ieAddr := 0xFFFF
  ifAddr := 0xFF0F
  lyAddr := 0xFF44
  ppuVblankFirst := 144
  ppuVblankLast := 153
  ppuOamSteps := 200
  ppuVramSteps := 200
  resetRegs :=
    { a := 0x01, f := 0xB0, b := 0x00, c := 0x13, d := 0x00, e := 0xD8, h := 0x01, l := 0x4D, sp := 0xFFFE, pc := 0x0100 }
  ioDefaults := soundTable ++ lcdTable
  romWindowEnd := 0x7FFF
  wramBase := 0xC000
  wramLen := 0x2000
  echoBase := 0xE000
  echoLen := 0x1E00

/-- Every parameter of a configuration at the default of 00_scope.md R7, with 60_exceptions.md R361. -/
def AtDefaults (c : Config) : Prop :=
  c.params = defaultParams ∧ c.addrOverflow = .wrap ∧ c.romWrite = .ignore ∧ c.eiDelay = .one ∧ c.stopPolicy = .refuse ∧
    c.unimplemented = [] ∧ c.unimplementedCb = []

/-- A byte of the backing buffer, the ROM window's included (10_state.md R39). -/
def bufferByte (t : State) (x : Word) : Byte := Mem.read (memDefault t.cfg.params) t.mem x.toNat

/-- The state that `Reset` of 70_reset_and_hazards.md R390 leaves at the parameters `p`: the registers of RESET_REGS, every
byte of memory 0x00 or the last value that IO_DEFAULTS gives its address. -/
def ResetTo (p : Params) (t : State) : Prop :=
  t.a = p.resetRegs.a ∧ t.f = p.resetRegs.f ∧ t.b = p.resetRegs.b ∧ t.c = p.resetRegs.c ∧ t.d = p.resetRegs.d ∧
    t.e = p.resetRegs.e ∧ t.h = p.resetRegs.h ∧ t.l = p.resetRegs.l ∧ t.sp = p.resetRegs.sp ∧ t.pc = p.resetRegs.pc ∧
    t.ime = false ∧ t.eiPending = false ∧ t.halted = false ∧ t.ppuMode = .hblank ∧ t.ppuLy = 0 ∧ t.ppuSub = 0 ∧
    ∀ x : Word, bufferByte t x = (p.ioDefaults.reverse.lookup x.toNat).getD 0x00

/-- The registers, flags, counters and bytes of 70_reset_and_hazards.md R391 and R392. -/
def HasResetValues (t : State) : Prop :=
  t.a = 0x01 ∧ t.f = 0xB0 ∧ t.b = 0x00 ∧ t.c = 0x13 ∧ t.d = 0x00 ∧ t.e = 0xD8 ∧ t.h = 0x01 ∧ t.l = 0x4D ∧
    t.sp = 0xFFFE ∧ t.pc = 0x0100 ∧ t.ime = false ∧ t.eiPending = false ∧ t.halted = false ∧
    t.ppuMode = .hblank ∧ t.ppuLy = 0 ∧ t.ppuSub = 0 ∧
    ∀ x : Word, bufferByte t x = ((soundTable ++ lcdTable).lookup x.toNat).getD 0x00

/-- The opcodes of the two-byte instructions (30_encoding.md R114): 0xCB, STOP and the `n` and `e` forms. -/
def twoByteOpcodes : List Byte :=
  [0xCB, 0x10, 0x06, 0x0E, 0x16, 0x1E, 0x26, 0x2E, 0x36, 0x3E, 0x18, 0x20, 0x28, 0x30, 0x38, 0xC6, 0xCE, 0xD6, 0xDE,
   0xE6, 0xEE, 0xF6, 0xFE, 0xE0, 0xF0, 0xE8, 0xF8]

/-- The opcodes of the three-byte instructions (30_encoding.md R114): the `nn` forms. -/
def threeByteOpcodes : List Byte :=
  [0x01, 0x11, 0x21, 0x31, 0x08, 0xC2, 0xC3, 0xC4, 0xCA, 0xCC, 0xCD, 0xD2, 0xD4, 0xDA, 0xDC, 0xEA, 0xFA]

/-- The eleven bytes of 30_encoding.md R111. -/
def unassigned : List Byte := [0xD3, 0xDB, 0xDD, 0xE3, 0xE4, 0xEB, 0xEC, 0xED, 0xF4, 0xFC, 0xFD]

/-- The PC-mutating instructions (30_encoding.md R116). -/
def PcMutating (i : Instr) : Prop :=
  (∃ nn, i = .jpNn nn) ∨ (∃ k nn, i = .ofJpCond k nn) ∨ i = .jpHl ∨ (∃ e, i = .jrE e) ∨ (∃ k e, i = .ofJrCond k e) ∨
    (∃ nn, i = .callNn nn) ∨ (∃ k nn, i = .ofCallCond k nn) ∨ i = .ret ∨ (∃ k, i = .ofRetCond k) ∨ i = .reti ∨
    ∃ t, i = .ofRestart t

/-- The end of the CPU phase that left `t`: an EI pending since before the phase takes effect (40_engine.md R131). -/
def committed (wasPending : Bool) (t : State) : State :=
  if wasPending = true ∧ t.eiPending = true then { t with ime := true, eiPending := false } else t

/-- The answer `r` of a step begun in `s` whose CPU phase left `t` without a fault: the interrupt controller at the identity hook
and then the PPU; a fault of the controller is the step's (40_engine.md R130, R131). -/
def Finishes (s t : State) (r : Out) : Prop :=
  (∀ u, icPhase intHook (committed s.eiPending t) = .ok u → r = .next (ppuPhase u)) ∧
    ∀ f, icPhase intHook (committed s.eiPending t) = .error f → Raises s r f

end Sys2Proof.Spec

section

open Sys2Proof Sys2Proof.Machine Sys2Proof.Spec

/-! Reset, load, registers and memory. -/

/-- 70_reset_and_hazards.md R390, R391, R392: the host's reset, after the cartridge is loaded, of a run that has not faulted leaves every register, flag,
counter and byte of memory at its reset value, by the parameters RESET_REGS and IO_DEFAULTS, and at their defaults the values
that R391 and R392 list; the cartridge image stays as it was, and a faulted run is not reset. The values of IME, ei_pending,
halted and ppu_sub are the spec's decisions D9 and D24. `State.reset` has these values too, and the defaults of 00_scope.md R7
for its parameters. The clauses about `launch`, the model's own field, are the model's choice (log entry 25). -/
def Obligations.ResetGivesResetValues : Prop :=
  (∀ s : State, s.fault = none → s.launch ≠ .unloaded → s.bankMode ≠ none →
    ∃ t, hostReset s = .next t ∧ ResetTo s.cfg.params t ∧ (s.cfg.params = defaultParams → HasResetValues t) ∧
      t.rom = s.rom ∧ t.bankMode = s.bankMode ∧ t.launch = .reset ∧ t.cfg = s.cfg ∧ t.fault = none) ∧
    (∀ (s : State) (f : Fault), s.fault = some f → hostReset s = .fault f) ∧
    HasResetValues State.reset ∧ State.reset.fault = none ∧ AtDefaults State.reset.cfg

/-- 20_memory.md R76, 60_exceptions.md R345 and 70_reset_and_hazards.md R403: before the first reset a load is refused or records
the image and the bank mode; after it a load has no move. Choices of the model beside them: a short image is refused as short
whatever its type, an order the spec does not give (log entry 24); what has no move is refused by name, a load after the first reset
(log entry 25) and a reset before any load (log entry 27); a machine past its reset with no load recorded is reset like any other
(log entry 27); a byte beyond the image reads as 0x00 (log entry 4); which type bytes
CART_TYPES holds is OPEN in the spec, so both outcomes are said (log entry 5). -/
def Obligations.CartridgeLoadRefusesOrRecords : Prop :=
  ∀ (image : List Byte) (s : State),
    (s.launch = .reset → hostLoad image s = .refused .loadAfterReset) ∧
    (s.launch ≠ .reset →
      (image.length < 0x8000 → hostLoad image s = .refused (.cartridgeFormat (.shortImage image.length))) ∧
      (0x8000 ≤ image.length →
        match Config.cartTypes (image.getD 0x0147 0) with
        | none => hostLoad image s = .refused (.cartridgeFormat (.unknownType (image.getD 0x0147 0)))
        | some mode =>
          ∃ t, hostLoad image s = .next t ∧ t = { s with rom := t.rom, bankMode := some mode, launch := .loaded } ∧
            ∀ k, Mem.read romDefault t.rom k = image.getD k 0)) ∧
    (s.fault = none → s.launch = .unloaded → hostReset s = .refused .resetBeforeLoad) ∧
    (s.fault = none → s.launch ≠ .unloaded → s.bankMode = none →
      ∃ t, hostReset s = .next t ∧ ResetTo s.cfg.params t ∧ t.rom = s.rom ∧ t.bankMode = none ∧ t.launch = .reset)

/-- 10_state.md R21 and R22: a pair is an alias of two registers, the first-named one high; and the selectors of the r8 and rp
tables read and write the registers they name. -/
def Obligations.PairsAreAliases : Prop :=
  ∀ (s : State) (v : Word) (x : Byte),
    (s.af.toNat = 256 * s.a.toNat + s.f.toNat ∧ s.bc.toNat = 256 * s.b.toNat + s.c.toNat ∧
      s.de.toNat = 256 * s.d.toNat + s.e.toNat ∧ s.hl.toNat = 256 * s.h.toNat + s.l.toNat) ∧
    (s.setStackPair .af v = { s with a := byte (v.toNat / 256), f := byte (v.toNat % 256) } ∧
      s.setStackPair .bc v = { s with b := byte (v.toNat / 256), c := byte (v.toNat % 256) } ∧
      s.setStackPair .de v = { s with d := byte (v.toNat / 256), e := byte (v.toNat % 256) } ∧
      s.setStackPair .hl v = { s with h := byte (v.toNat / 256), l := byte (v.toNat % 256) }) ∧
    (∀ q, (s.setStackPair q v).stackPair q = v) ∧
    (∀ p, (s.setPair p v).pair p = v) ∧
    (s.setPair .bc v = s.setStackPair .bc v ∧ s.setPair .de v = s.setStackPair .de v ∧
      s.setPair .hl v = s.setStackPair .hl v ∧ s.setPair .sp v = { s with sp := v }) ∧
    (s.pair .bc = s.bc ∧ s.pair .de = s.de ∧ s.pair .hl = s.hl ∧ s.pair .sp = s.sp ∧ s.stackPair .af = s.af) ∧
    (s.r8 .a = s.a ∧ s.r8 .b = s.b ∧ s.r8 .c = s.c ∧ s.r8 .d = s.d ∧ s.r8 .e = s.e ∧ s.r8 .h = s.h ∧ s.r8 .l = s.l) ∧
    (s.setR8 .a x = { s with a := x } ∧ s.setR8 .b x = { s with b := x } ∧ s.setR8 .c x = { s with c := x } ∧
      s.setR8 .d x = { s with d := x } ∧ s.setR8 .e x = { s with e := x } ∧ s.setR8 .h x = { s with h := x } ∧
      s.setR8 .l x = { s with l := x })

/-- 10_state.md R25 and R31, 60_exceptions.md R343: the fourteen identifiers with their registers, and get, set, increment and
decrement of each; PC-advance returns PC as it was. The set of an 8-bit register by the low byte, the increment of F without other
flags and of a pair or SP without flags are the model's readings (log entry 9). -/
def Obligations.GenericAccessorsKnowFourteenNames : Prop :=
  (regOfName "A" = .ok (.r .a) ∧ regOfName "B" = .ok (.r .b) ∧ regOfName "C" = .ok (.r .c) ∧ regOfName "D" = .ok (.r .d) ∧
    regOfName "E" = .ok (.r .e) ∧ regOfName "H" = .ok (.r .h) ∧ regOfName "L" = .ok (.r .l) ∧ regOfName "F" = .ok .f ∧
    regOfName "SP" = .ok .sp ∧ regOfName "PC" = .ok .pc ∧ regOfName "AF" = .ok (.p .af) ∧ regOfName "BC" = .ok (.p .bc) ∧
    regOfName "DE" = .ok (.p .de) ∧ regOfName "HL" = .ok (.p .hl)) ∧
  (∀ name : String, name ∉ ["A", "B", "C", "D", "E", "H", "L", "F", "SP", "PC", "AF", "BC", "DE", "HL"] →
    regOfName name = .error (.unknownRegister name)) ∧
  ∀ (s : State) (v w : Word) (r : R8) (q : StackPair),
    ((s.getReg (.r r)).toNat = (s.r8 r).toNat ∧ (s.getReg .f).toNat = s.f.toNat ∧ s.getReg (.p q) = s.stackPair q ∧
      s.getReg .sp = s.sp ∧ s.getReg .pc = s.pc) ∧
    (s.setReg (.r r) v = s.setR8 r (byte (v.toNat % 256)) ∧ s.setReg .f v = { s with f := byte (v.toNat % 256) } ∧
      s.setReg (.p q) v = s.setStackPair q v ∧ s.setReg .sp v = { s with sp := v } ∧ s.setReg .pc v = { s with pc := v }) ∧
    (((s.setReg (.r r) v).getReg (.r r)).toNat = v.toNat % 256 ∧ ((s.setReg .f v).getReg .f).toNat = v.toNat % 256 ∧
      (s.setReg (.p q) v).getReg (.p q) = v ∧ (s.setReg .sp v).getReg .sp = v ∧ (s.setReg .pc v).getReg .pc = v) ∧
    ((∃ x fl, Incs (s.r8 r) s.f x fl ∧ s.incReg (.r r) = .ok (State.setR8 { s with f := fl } r x)) ∧
      s.incReg .f = .ok { s with f := byte ((s.f.toNat + 1) % 256) } ∧
      (∃ x : Word, x.toNat = ((s.stackPair q).toNat + 1) % 65536 ∧ s.incReg (.p q) = .ok (s.setStackPair q x)) ∧
      ∃ x : Word, x.toNat = (s.sp.toNat + 1) % 65536 ∧ s.incReg .sp = .ok { s with sp := x }) ∧
    ((∃ x fl, Decs (s.r8 r) s.f x fl ∧ s.decReg (.r r) = .ok (State.setR8 { s with f := fl } r x)) ∧
      s.decReg .f = .ok { s with f := byte ((s.f.toNat + 255) % 256) } ∧
      (∃ x : Word, x.toNat = ((s.stackPair q).toNat + 65535) % 65536 ∧ s.decReg (.p q) = .ok (s.setStackPair q x)) ∧
      ∃ x : Word, x.toNat = (s.sp.toNat + 65535) % 65536 ∧ s.decReg .sp = .ok { s with sp := x }) ∧
    (s.Addr (s.pc.toNat + 1) w → s.advancePc = .ok (s.pc, { s with pc := w }) ∧ s.incReg .pc = .ok { s with pc := w }) ∧
    (s.OutOfRange (s.pc.toNat + 1) → s.advancePc = .error (.addressRange (s.pc.toNat + 1)) ∧
      s.incReg .pc = .error (.addressRange (s.pc.toNat + 1))) ∧
    (s.Addr ((s.pc.toNat : Int) - 1) w → s.decReg .pc = .ok { s with pc := w }) ∧
    (s.OutOfRange ((s.pc.toNat : Int) - 1) → s.decReg .pc = .error (.addressRange ((s.pc.toNat : Int) - 1)))

/-- 20_memory.md R63, R64, R65: one-byte reads and writes. A read of the ROM window reads the image, any other read the
buffer; a write outside the window stores the byte and its echo and nothing else; a write into it is ignored or raises
RomWrite. A mirror address past 0xFFFF, which no legal parameters give, goes through `addr16` as every address does. -/
def Obligations.ByteAccessMirrorsAndSparesRom : Prop :=
  ∀ (s : State) (a : Word) (v : Byte),
    (s.InRom a → s.readByte a = Mem.read romDefault s.rom a.toNat) ∧
    (¬s.InRom a → s.readByte a = bufferByte s a) ∧
    (s.InRom a → s.cfg.romWrite = .fault → s.writeByte a v = .error (.romWrite a v)) ∧
    (s.InRom a → s.cfg.romWrite = .ignore → s.writeByte a v = .ok s) ∧
    (¬s.InRom a → s.cfg.addrOverflow = .wrap ∨ s.cfg.params.Legal → s.storeFault a v = none) ∧
    (∀ f, s.storeFault a v = some f → s.writeByte a v = .error f) ∧
    (s.storeFault a v = none → ∃ t, s.writeByte a v = .ok t ∧ s.StoredByte t a v)

/-- 20_memory.md R67, R68: two-byte reads and writes in both byte orders, and what they raise: `first` and `second` are the bytes
that go to `a` and to `addr16(a + 1)`. -/
def Obligations.ShortAccessIsTwoByteAccesses : Prop :=
  ∀ (s : State) (a v : Word),
    (∀ a1, s.Addr (a.toNat + 1) a1 →
      (∃ w, s.readShort .little a = .ok w ∧ w.toNat = 256 * (s.readByte a1).toNat + (s.readByte a).toNat) ∧
      ∃ w, s.readShort .big a = .ok w ∧ w.toNat = 256 * (s.readByte a).toNat + (s.readByte a1).toNat) ∧
    (s.OutOfRange (a.toNat + 1) → ∀ o, s.readShort o a = .error (.addressRange (a.toNat + 1))) ∧
    ∀ (o : ByteOrder) (first second : Byte),
      (o = .little ∧ first = byte (v.toNat % 256) ∧ second = byte (v.toNat / 256) ∨
        o = .big ∧ first = byte (v.toNat / 256) ∧ second = byte (v.toNat % 256)) →
      (∀ f, s.storeFault a first = some f → s.writeShort o a v = .error f) ∧
      (s.storeFault a first = none →
        (s.OutOfRange (a.toNat + 1) → s.writeShort o a v = .error (.addressRange (a.toNat + 1))) ∧
        ∀ a1, s.Addr (a.toNat + 1) a1 →
          (∀ f, s.storeFault a1 second = some f → s.writeShort o a v = .error f) ∧
          (s.storeFault a1 second = none →
            ∃ m t, s.writeShort o a v = .ok t ∧ s.StoredByte m a first ∧ m.StoredByte t a1 second))

/-- The model's own form of memory: every operation that stores keeps it (log entries 4 and 7). -/
def Obligations.MemoryStaysCanonical : Prop :=
  ∀ (s t : State), s.MemoryCanonical →
    (∀ a v, s.writeByte a v = .ok t → t.MemoryCanonical) ∧
    (∀ o a v, s.writeShort o a v = .ok t → t.MemoryCanonical) ∧
    (∀ v, s.push16 v = .ok t → t.MemoryCanonical) ∧
    (∀ image, match hostLoad image s with
      | .next u => u.MemoryCanonical
      | .fault _ => True
      | .refused _ => True) ∧
    (hostReset s = .next t → t.MemoryCanonical) ∧
    ∀ nbits w, (s.withFetchWord nbits w).MemoryCanonical

/-! Encoding. -/

/-- Words of every family written out from the encodings of 30_encoding.md R109, R110 and of the families' rules. -/
def Obligations.SampleWordsDecode : Prop :=
  decode [0b00000000] = .ok (.nop, []) ∧ decode [0b01110110] = .ok (.halt, []) ∧
    decode [0b00010000, 0x00] = .ok (.stop 0x00, []) ∧ decode [0b11110011] = .ok (.di, []) ∧
    decode [0b11010011] = .ok (.illegal 0xD3, []) ∧
    decode [0b01000001] = .ok (.ldBC, []) ∧ decode [0b00111110, 0x42] = .ok (.ldAN 0x42, []) ∧
    decode [0b01111110] = .ok (.ldAMemHl, []) ∧ decode [0b11111010, 0x44, 0xFF] = .ok (.ldAMemNn 0xFF44, []) ∧
    decode [0b00110001, 0xFE, 0xFF] = .ok (.ldSpNn 0xFFFE, []) ∧ decode [0b11110001] = .ok (.popAf, []) ∧
    decode [0b10001011] = .ok (.adcAE, []) ∧ decode [0b11010110, 0x0F] = .ok (.subN 0x0F, []) ∧
    decode [0b10101111] = .ok (.xorA, []) ∧ decode [0b00110100] = .ok (.incMemHl, []) ∧
    decode [0b00001001] = .ok (.addHlBc, []) ∧ decode [0b11101000, 0x02] = .ok (.addSpE 0x02, []) ∧
    decode [0b00000111] = .ok (.rlca, []) ∧ decode [0b11001011, 0b00110111] = .ok (.swapA, []) ∧
    decode [0b11001011, 0b01111100] = .ok (.bit7H, []) ∧ decode [0b11001011, 0b10000110] = .ok (.res0MemHl, []) ∧
    decode [0b11001011, 0b11111111] = .ok (.set7A, []) ∧
    decode [0b11000011, 0x50, 0x01] = .ok (.jpNn 0x0150, []) ∧ decode [0b00100000, 0xFB] = .ok (.jrNzE 0xFB, []) ∧
    decode [0b11001101, 0x00, 0x20] = .ok (.callNn 0x2000, []) ∧ decode [0b11101111] = .ok (.rst28, [])

/-- Decoding and encoding agree, for every well-formed instruction and every operand value (30_encoding.md R101, R109, R110).
`prefixCb` is the table's row for the 0xCB byte itself, whose words are the 0xCB rows' (log entry 11). -/
def Obligations.DecodeOfEncodeIsIdentity : Prop :=
  ∀ (i : Instr) (rest : List Byte), i.wellFormed = true →
    ((∀ sub, i ≠ .prefixCb sub) → decode (encode i ++ rest) = .ok (i, rest)) ∧
    ∀ sub, i = .prefixCb sub → decode (encode i ++ rest) = .ok (cbInstr sub, rest) ∧ encode i = encode (cbInstr sub)

/-- The other direction: bytes that decode are the encoding of a well-formed instruction, followed by the bytes left. -/
def Obligations.EncodeOfDecodeIsIdentity : Prop :=
  ∀ (bytes rest : List Byte) (i : Instr), decode bytes = .ok (i, rest) → i.wellFormed = true ∧ bytes = encode i ++ rest

/-- 30_encoding.md R111 and 40_engine.md R144: the eleven unassigned opcodes, no other, and UnmappedOpcode when one is
fetched. -/
def Obligations.UnassignedOpcodesRaiseUnmapped : Prop :=
  (∀ (op : Byte) (rest : List Byte), op ∈ unassigned → decode (op :: rest) = .ok (.illegal op, rest)) ∧
    (∀ (op x : Byte) (rest r : List Byte), decode (op :: rest) = .ok (.illegal x, r) → op ∈ unassigned) ∧
    (∀ (op : Byte) (s : State), Raises s (exec (.illegal op) s) (.unmappedOpcode op s.pc)) ∧
    ∀ s : State, s.fault = none → s.halted = false → s.readByte s.pc ∈ unassigned → (∃ w, s.Next 1 w) →
      Raises s (step s) (.unmappedOpcode (s.readByte s.pc) s.pc)

/-- 30_encoding.md R114: the length of an instruction from its first byte alone. -/
def Obligations.FirstByteGivesLength : Prop :=
  ∀ (op : Byte) (rest r : List Byte) (i : Instr), decode (op :: rest) = .ok (i, r) →
    (op ∈ twoByteOpcodes → (op :: rest).length = r.length + 2) ∧
    (op ∈ threeByteOpcodes → (op :: rest).length = r.length + 3) ∧
    (op ∉ twoByteOpcodes → op ∉ threeByteOpcodes → (op :: rest).length = r.length + 1)

/-! The step. -/

/-- A step runs the instruction whose bytes stand at PC (40_engine.md R130 to R134): the step is `exec` of it and then the
phases after it, or its fault alone. Where nothing raises a fault it answers a next state
(`Obligations.IdentityHookClearsActiveBits` says when the controller raises none). -/
def Obligations.StepRunsDecoded : Prop :=
  ∀ (s t : State) (bytes : List Byte) (i : Instr), s.fault = none → s.halted = false → decode bytes = .ok (i, []) →
    s.BytesAtPc bytes → s.Implements bytes → (∃ w, s.Next 1 w) → exec i s = .next t →
      (t.fault = none → Finishes s t (step s)) ∧
      ∀ f, t.fault = some f → Raises s (step s) f

/-- 30_encoding.md R115 as the model reads it beside 40_engine.md R137 and 60_exceptions.md R342 (log entry 21): an opcode outside
IMPLEMENTED raises UnmappedOpcode, a 0xCB pair with the opcode 0xCB, but 0x00 runs as NOP even where it is outside IMPLEMENTED.
At reset IMPLEMENTED is every defined opcode. -/
def Obligations.OutsideImplementedRaisesUnmapped : Prop :=
  (State.reset.cfg.unimplemented = [] ∧ State.reset.cfg.unimplementedCb = []) ∧
    (∀ s : State, s.fault = none → s.halted = false → (∃ w, s.Next 1 w) → s.readByte s.pc ≠ 0x00 →
      s.readByte s.pc ∈ s.cfg.unimplemented → Raises s (step s) (.unmappedOpcode (s.readByte s.pc) s.pc)) ∧
    (∀ (s : State) (w : Word), s.fault = none → s.halted = false → s.Next 1 w → s.readByte s.pc = 0xCB →
      0xCB ∉ s.cfg.unimplemented → s.readByte w ∈ s.cfg.unimplementedCb → Raises s (step s) (.unmappedOpcode 0xCB s.pc)) ∧
    ∀ (s : State) (w : Word), s.fault = none → s.halted = false → s.Next 1 w → s.readByte s.pc = 0x00 →
      Finishes s { s with pc := w } (step s)

/-- The order of faults at the fetch, an inference of the spec (60_exceptions.md R348): the PC increment first, then decode,
then the operand bytes (40_engine.md R132, R134). -/
def Obligations.AddressRangeAtFetch : Prop :=
  ∀ s : State, s.fault = none → s.halted = false →
    (s.OutOfRange (s.pc.toNat + 1) → Raises s (step s) (.addressRange (s.pc.toNat + 1))) ∧
    (∀ w, s.Next 1 w → s.OutOfRange (s.pc.toNat + 2) → s.readByte s.pc ∈ threeByteOpcodes →
      s.readByte s.pc ∉ s.cfg.unimplemented → Raises s (step s) (.addressRange (s.pc.toNat + 2)))

/-- 60_exceptions.md R347: a step that raises a fault, in any phase and with any interrupt hook, leaves the state before it
with only the fault recorded, and that state has no step and is not reset. -/
def Obligations.FaultIsPrecise : Prop :=
  ∀ (hook : Nat → State → State) (s t : State) (f : Fault), stepWith hook s = .next t → t.fault = some f →
    s.fault = none ∧ t = { s with fault := some f } ∧ stepWith hook t = .fault f ∧ hostReset t = .fault f

/-- 40_engine.md R130: a state whose fault is set has no step, and every other state has one, whatever it holds. -/
def Obligations.EveryUnfaultedStateSteps : Prop :=
  (∀ (s : State) (f : Fault), s.fault = some f → step s = .fault f) ∧
    ∀ s : State, s.fault = none → ∃ t, step s = .next t

/-! CPU control. -/

/-- 40_engine.md R137: NOP. -/
def Obligations.NopChangesPcOnly : Prop :=
  ∀ (s : State) (nxt : Word) (rest : List Byte),
    decode (0x00 :: rest) = .ok (.nop, rest) ∧ (s.Next 1 nxt → exec .nop s = .next { s with pc := nxt })

/-- 40_engine.md R138: HALT, the spec's decision D13. -/
def Obligations.HaltHaltsCompletesOrRaises : Prop :=
  ∀ (s : State) (nxt : Word) (rest : List Byte),
    decode (0x76 :: rest) = .ok (.halt, rest) ∧
    (s.Next 1 nxt → active s = 0 → exec .halt s = .next { s with halted := true, pc := nxt }) ∧
    (s.Next 1 nxt → active s ≠ 0 → s.ime = true → exec .halt s = .next { s with pc := nxt }) ∧
    (active s ≠ 0 → s.ime = false → Raises s (exec .halt s) (.unmodelled 0x76 s.pc))

/-- 40_engine.md R139: a halted step fetches nothing and leaves PC; an enabled pending interrupt wakes the CPU whatever IME;
the later phases run. -/
def Obligations.HaltedStepFetchesNothing : Prop :=
  ∀ s : State, s.fault = none → s.halted = true →
    (active s = 0 → Finishes s s (step s)) ∧
    (active s ≠ 0 → Finishes s { s with halted := false } (step s)) ∧
    ∀ t, step s = .next t → t.pc = s.pc ∧ (t.fault = none → t.halted = decide (active s = 0))

/-- 40_engine.md R140: STOP by STOP_POLICY, the spec's decision D14. -/
def Obligations.StopFollowsPolicy : Prop :=
  ∀ (s : State) (nxt : Word) (n : Byte) (rest : List Byte),
    decode (0x10 :: n :: rest) = .ok (.stop n, rest) ∧
    (s.cfg.stopPolicy = .refuse → Raises s (exec (.stop n) s) (.unmodelled 0x10 s.pc)) ∧
    (s.cfg.stopPolicy = .nop → s.Next 2 nxt → exec (.stop n) s = .next { s with pc := nxt })

/-- 40_engine.md R141 and R142: DI, EI, and the end of the CPU phase in which a pending EI takes effect. -/
def Obligations.DiEiAndCommitWriteIme : Prop :=
  ∀ (s : State) (nxt : Word) (rest : List Byte),
    decode (0xF3 :: rest) = .ok (.di, rest) ∧ decode (0xFB :: rest) = .ok (.ei, rest) ∧
    (s.Next 1 nxt → exec .di s = .next { s with ime := false, eiPending := false, pc := nxt }) ∧
    (s.Next 1 nxt → s.cfg.eiDelay = .zero → exec .ei s = .next { s with ime := true, pc := nxt }) ∧
    (s.Next 1 nxt → s.cfg.eiDelay = .one → exec .ei s = .next { s with eiPending := true, pc := nxt }) ∧
    (s.eiPending = true → s.commitEi true = { s with ime := true, eiPending := false }) ∧
    (s.eiPending = false → s.commitEi true = s) ∧ s.commitEi false = s

/-- 40_engine.md R143: PREFIX CB executes the rule of its sub-opcode, whatever it answers, and completes where no store of it
faults; fetched with a sub-opcode outside IMPLEMENTED it raises UnmappedOpcode. -/
def Obligations.PrefixCbRunsSubOpcode : Prop :=
  ∀ (s : State) (nxt : Word) (sub : Byte) (rest : List Byte),
    decode (0xCB :: sub :: rest) = .ok (cbInstr sub, rest) ∧
    exec (.prefixCb sub) s = exec (cbInstr sub) s ∧
    (s.Next 2 nxt → (∀ v, s.storeFault s.hl v = none) →
      ∃ t, exec (.prefixCb sub) s = .next t ∧ t.pc = nxt ∧ t.fault = s.fault) ∧
    (s.fault = none → s.halted = false → s.Next 1 nxt → s.readByte s.pc = 0xCB → 0xCB ∉ s.cfg.unimplemented →
      s.readByte nxt ∈ s.cfg.unimplementedCb → Raises s (step s) (.unmappedOpcode 0xCB s.pc))

/-! 8-bit loads. -/

/-- 41_load8.md R160, R161, R162: loads of a register from a register, an immediate and (HL). -/
def Obligations.RegisterLoadsWriteRegister : Prop :=
  ∀ (s : State) (nxt : Word) (dst src : R8) (n : Byte) (rest : List Byte),
    decode (byte (0x40 + 8 * dst.code + src.code) :: rest) = .ok (.ofLdRegReg dst src, rest) ∧
    decode (byte (0x06 + 8 * dst.code) :: n :: rest) = .ok (.ofLdRegImm dst n, rest) ∧
    decode (byte (0x46 + 8 * dst.code) :: rest) = .ok (.ofLdRegMemHl dst, rest) ∧
    (s.Next 1 nxt → exec (.ofLdRegReg dst src) s = .next { s.setR8 dst (s.r8 src) with pc := nxt }) ∧
    (s.Next 2 nxt → exec (.ofLdRegImm dst n) s = .next { s.setR8 dst n with pc := nxt }) ∧
    (s.Next 1 nxt → exec (.ofLdRegMemHl dst) s = .next { s.setR8 dst (s.readByte s.hl) with pc := nxt })

/-- 41_load8.md R163, R164: stores to (HL) of a register and of an immediate. -/
def Obligations.RegisterStoresWriteByte : Prop :=
  ∀ (s : State) (src : R8) (n : Byte) (rest : List Byte),
    decode (byte (0x70 + src.code) :: rest) = .ok (.ofLdMemHlReg src, rest) ∧
    decode (0x36 :: n :: rest) = .ok (.ldMemHlN n, rest) ∧
    StoreAnswer s (.ofLdMemHlReg src) 1 s.hl (s.r8 src) id ∧
    StoreAnswer s (.ldMemHlN n) 2 s.hl n id

/-- 41_load8.md R165, R166, R169, R171, R173: loads of A from (BC), (DE), (nn), (0xFF00+n) and (0xFF00+C). -/
def Obligations.AccumulatorLoadsReadByte : Prop :=
  ∀ (s : State) (nxt nn page : Word) (n : Byte) (rest : List Byte),
    decode (0x0A :: rest) = .ok (.ldAMemBc, rest) ∧ decode (0x1A :: rest) = .ok (.ldAMemDe, rest) ∧
    decode (0xFA :: byte (nn.toNat % 256) :: byte (nn.toNat / 256) :: rest) = .ok (.ldAMemNn nn, rest) ∧
    decode (0xF0 :: n :: rest) = .ok (.ldhAMemN n, rest) ∧ decode (0xF2 :: rest) = .ok (.ldAMemC, rest) ∧
    (s.Next 1 nxt → exec .ldAMemBc s = .next { s with a := s.readByte s.bc, pc := nxt }) ∧
    (s.Next 1 nxt → exec .ldAMemDe s = .next { s with a := s.readByte s.de, pc := nxt }) ∧
    (s.Next 3 nxt → exec (.ldAMemNn nn) s = .next { s with a := s.readByte nn, pc := nxt }) ∧
    (s.Next 2 nxt → page.toNat = 0xFF00 + n.toNat →
      exec (.ldhAMemN n) s = .next { s with a := s.readByte page, pc := nxt }) ∧
    (s.Next 1 nxt → page.toNat = 0xFF00 + s.c.toNat →
      exec .ldAMemC s = .next { s with a := s.readByte page, pc := nxt })

/-- 41_load8.md R167, R168, R170, R172, R174: stores of A to (BC), (DE), (nn), (0xFF00+n) and (0xFF00+C); where the ROM window
and the mirrored ranges end below the high page, as they do by default, the last two raise nothing. -/
def Obligations.AccumulatorStoresWriteByte : Prop :=
  ∀ (s : State) (nn page : Word) (n : Byte) (rest : List Byte),
    decode (0x02 :: rest) = .ok (.ldMemBcA, rest) ∧ decode (0x12 :: rest) = .ok (.ldMemDeA, rest) ∧
    decode (0xEA :: byte (nn.toNat % 256) :: byte (nn.toNat / 256) :: rest) = .ok (.ldMemNnA nn, rest) ∧
    decode (0xE0 :: n :: rest) = .ok (.ldhMemNA n, rest) ∧ decode (0xE2 :: rest) = .ok (.ldMemCA, rest) ∧
    StoreAnswer s .ldMemBcA 1 s.bc s.a id ∧ StoreAnswer s .ldMemDeA 1 s.de s.a id ∧
    StoreAnswer s (.ldMemNnA nn) 3 nn s.a id ∧
    (0xFF00 ≤ page.toNat → s.cfg.params.romWindowEnd.toNat < 0xFF00 → ¬s.cfg.params.Echoed page.toNat →
      s.storeFault page s.a = none) ∧
    (page.toNat = 0xFF00 + n.toNat → StoreAnswer s (.ldhMemNA n) 2 page s.a id) ∧
    (page.toNat = 0xFF00 + s.c.toNat → StoreAnswer s .ldMemCA 1 page s.a id)

/-- 41_load8.md R175, R176, R177, R178: the loads and stores of A at HL that then move HL by one, modulo 65,536. -/
def Obligations.HlUpdateFormsMoveHl : Prop :=
  ∀ (s : State) (nxt up down : Word) (rest : List Byte),
    up.toNat = (s.hl.toNat + 1) % 65536 → down.toNat = (s.hl.toNat + 65535) % 65536 →
    decode (0x22 :: rest) = .ok (.ldMemHlIncA, rest) ∧ decode (0x2A :: rest) = .ok (.ldAMemHlInc, rest) ∧
    decode (0x32 :: rest) = .ok (.ldMemHlDecA, rest) ∧ decode (0x3A :: rest) = .ok (.ldAMemHlDec, rest) ∧
    StoreAnswer s .ldMemHlIncA 1 s.hl s.a (fun t => t.setPair .hl up) ∧
    StoreAnswer s .ldMemHlDecA 1 s.hl s.a (fun t => t.setPair .hl down) ∧
    (s.Next 1 nxt →
      exec .ldAMemHlInc s = .next { State.setPair { s with a := s.readByte s.hl } .hl up with pc := nxt }) ∧
    (s.Next 1 nxt →
      exec .ldAMemHlDec s = .next { State.setPair { s with a := s.readByte s.hl } .hl down with pc := nxt })

/-! 16-bit loads and the stack. -/

/-- 42_load16.md R191, R193, R194: LD rr,nn, LD SP,HL and LD HL,SP+e. -/
def Obligations.PairLoadsWritePair : Prop :=
  ∀ (s : State) (nxt nn : Word) (p : Pair) (e : Byte) (rest : List Byte),
    decode (byte (0x01 + 16 * p.code) :: byte (nn.toNat % 256) :: byte (nn.toNat / 256) :: rest)
      = .ok (.ofLdPairImm p nn, rest) ∧
    decode (0xF9 :: rest) = .ok (.ldSpHl, rest) ∧ decode (0xF8 :: e :: rest) = .ok (.ldHlSpE e, rest) ∧
    (s.Next 3 nxt → exec (.ofLdPairImm p nn) s = .next { s.setPair p nn with pc := nxt }) ∧
    (s.Next 1 nxt → exec .ldSpHl s = .next { s with sp := s.hl, pc := nxt }) ∧
    (s.Next 2 nxt → ∃ (w : Word) (fl : Byte), w.toNat = (s.sp.toNat + sext e) % 65536 ∧ SpAddFlags s.sp e fl ∧
      exec (.ldHlSpE e) s = .next { s.setPair .hl w with f := fl, pc := nxt })

/-- 42_load16.md R192: LD (nn),SP. -/
def Obligations.StoreSpWritesTwoBytes : Prop :=
  ∀ (s : State) (nxt nn : Word) (rest : List Byte),
    decode (0x08 :: byte (nn.toNat % 256) :: byte (nn.toNat / 256) :: rest) = .ok (.ldMemNnSp nn, rest) ∧
    (s.Next 3 nxt → ShortStoreAnswer s s nn s.sp (exec (.ldMemNnSp nn) s) fun t => { t with pc := nxt })

/-- 42_load16.md R195: PUSH. -/
def Obligations.PushLowersSpAndStores : Prop :=
  ∀ (s : State) (nxt : Word) (q : StackPair) (rest : List Byte),
    decode (byte (0xC5 + 16 * q.code) :: rest) = .ok (.ofPush q, rest) ∧
    (s.Next 1 nxt → PushAnswer s (s.stackPair q) (exec (.ofPush q) s) fun t => { t with pc := nxt })

/-- 42_load16.md R196, R197: POP, and POP AF with the low nibble of F cleared (the spec's decision D18). -/
def Obligations.PopLoadsPairAndRaisesSp : Prop :=
  ∀ (s : State) (nxt : Word) (q : StackPair) (rest : List Byte),
    decode (byte (0xC1 + 16 * q.code) :: rest) = .ok (.ofPop q, rest) ∧
    (q ≠ .af → s.Next 1 nxt → PopAnswer s (exec (.ofPop q) s) fun w t => { t.setStackPair q w with pc := nxt }) ∧
    (s.Next 1 nxt → PopAnswer s (exec .popAf s) fun w t =>
      { t with a := byte (w.toNat / 256), f := byte (w.toNat % 256 / 16 * 16), pc := nxt })

/-! 8-bit arithmetic and logic. -/

/-- 43_alu8.md R211 to R216: ADD and ADC. -/
def Obligations.AddAdcSumAndFlags : Prop :=
  AluForms .add 0 (Adds 0) ∧ AluForms .adc 1 fun s => Adds (bitC s.f).toNat s

/-- 43_alu8.md R217 to R222 and R232 to R234: SUB, SBC and CP. -/
def Obligations.SubSbcCpDifferenceAndFlags : Prop :=
  AluForms .sub 2 (Subtracts 0) ∧ AluForms .sbc 3 (fun s => Subtracts (bitC s.f).toNat s) ∧ AluForms .cp 7 Compares

/-- 43_alu8.md R223 to R231: AND, XOR and OR. -/
def Obligations.LogicBitsAndFlags : Prop :=
  AluForms .and 4 (Combines (· && ·) true) ∧ AluForms .xor 5 (Combines Bool.xor false) ∧
    AluForms .or 6 (Combines (· || ·) false)

/-- 43_alu8.md R235, R237: INC and DEC of a register. -/
def Obligations.IncDecRegisterKeepsCarry : Prop :=
  ∀ (s : State) (nxt : Word) (r : R8) (rest : List Byte),
    decode (byte (0x04 + 8 * r.code) :: rest) = .ok (.ofIncReg r, rest) ∧
    decode (byte (0x05 + 8 * r.code) :: rest) = .ok (.ofDecReg r, rest) ∧
    (s.Next 1 nxt → ∃ v fl, Incs (s.r8 r) s.f v fl ∧
      exec (.ofIncReg r) s = .next { State.setR8 { s with f := fl } r v with pc := nxt }) ∧
    (s.Next 1 nxt → ∃ v fl, Decs (s.r8 r) s.f v fl ∧
      exec (.ofDecReg r) s = .next { State.setR8 { s with f := fl } r v with pc := nxt })

/-- 43_alu8.md R236, R238: INC and DEC of the byte at (HL). -/
def Obligations.IncDecMemoryStoresAndKeepsCarry : Prop :=
  ∀ (s : State) (rest : List Byte),
    decode (0x34 :: rest) = .ok (.incMemHl, rest) ∧ decode (0x35 :: rest) = .ok (.decMemHl, rest) ∧
    (∃ v fl, Incs (s.readByte s.hl) s.f v fl ∧ StoreAnswer s .incMemHl 1 s.hl v fun t => { t with f := fl }) ∧
    ∃ v fl, Decs (s.readByte s.hl) s.f v fl ∧ StoreAnswer s .decMemHl 1 s.hl v fun t => { t with f := fl }

/-- 43_alu8.md R239: DAA, both branches, for every A and F. -/
def Obligations.DaaAdjustsByFlags : Prop :=
  ∀ (s : State) (nxt : Word) (rest : List Byte),
    decode (0x27 :: rest) = .ok (.daa, rest) ∧
    (s.Next 1 nxt → ∃ v fl : Byte, exec .daa s = .next { s with a := v, f := fl, pc := nxt } ∧
      (bitN s.f = false →
        v.toNat = (s.a.toNat + (if bitC s.f = true ∨ s.a.toNat > 0x99 then 0x60 else 0)
          + (if bitH s.f = true ∨ s.a.toNat % 16 > 0x09 then 0x06 else 0)) % 256 ∧
        FlagsAre fl (decide (v.toNat = 0)) false false (bitC s.f || decide (s.a.toNat > 0x99)) 0) ∧
      (bitN s.f = true →
        v.toNat = (s.a.toNat + 256 - (if bitC s.f = true then 0x60 else 0) - (if bitH s.f = true then 0x06 else 0)) % 256 ∧
        FlagsAre fl (decide (v.toNat = 0)) true false (bitC s.f) 0))

/-- 43_alu8.md R240, R241, R242: CPL, SCF and CCF. -/
def Obligations.CplScfCcfFlags : Prop :=
  ∀ (s : State) (nxt : Word) (rest : List Byte),
    decode (0x2F :: rest) = .ok (.cpl, rest) ∧ decode (0x37 :: rest) = .ok (.scf, rest) ∧
    decode (0x3F :: rest) = .ok (.ccf, rest) ∧
    (s.Next 1 nxt → ∃ v fl : Byte, exec .cpl s = .next { s with a := v, f := fl, pc := nxt } ∧
      v.toNat = 255 - s.a.toNat ∧ FlagsAre fl (bitZ s.f) true true (bitC s.f) (lowNibble s.f)) ∧
    (s.Next 1 nxt → ∃ fl : Byte, exec .scf s = .next { s with f := fl, pc := nxt } ∧
      FlagsAre fl (bitZ s.f) false false true (lowNibble s.f)) ∧
    (s.Next 1 nxt → ∃ fl : Byte, exec .ccf s = .next { s with f := fl, pc := nxt } ∧
      FlagsAre fl (bitZ s.f) false false (!bitC s.f) (lowNibble s.f))

/-! 16-bit arithmetic. -/

/-- 44_alu16.md R260, R261: INC and DEC of a pair or SP, which write no flag. -/
def Obligations.IncDecPairWritesNoFlag : Prop :=
  ∀ (s : State) (nxt : Word) (p : Pair) (rest : List Byte),
    decode (byte (0x03 + 16 * p.code) :: rest) = .ok (.ofIncPair p, rest) ∧
    decode (byte (0x0B + 16 * p.code) :: rest) = .ok (.ofDecPair p, rest) ∧
    (s.Next 1 nxt → ∃ w : Word, w.toNat = ((s.pair p).toNat + 1) % 65536 ∧
      exec (.ofIncPair p) s = .next { s.setPair p w with pc := nxt }) ∧
    (s.Next 1 nxt → ∃ w : Word, w.toNat = ((s.pair p).toNat + 65535) % 65536 ∧
      exec (.ofDecPair p) s = .next { s.setPair p w with pc := nxt })

/-- 44_alu16.md R262, R263: ADD HL,rr and ADD SP,e. -/
def Obligations.PairAdditionsCarryFlags : Prop :=
  ∀ (s : State) (nxt : Word) (p : Pair) (e : Byte) (rest : List Byte),
    decode (byte (0x09 + 16 * p.code) :: rest) = .ok (.ofAddHl p, rest) ∧
    decode (0xE8 :: e :: rest) = .ok (.addSpE e, rest) ∧
    (s.Next 1 nxt → ∃ (w : Word) (fl : Byte), w.toNat = (s.hl.toNat + (s.pair p).toNat) % 65536 ∧
      FlagsAre fl (bitZ s.f) false (decide (s.hl.toNat % 4096 + (s.pair p).toNat % 4096 > 4095))
        (decide (s.hl.toNat + (s.pair p).toNat > 65535)) (lowNibble s.f) ∧
      exec (.ofAddHl p) s = .next { s.setPair .hl w with f := fl, pc := nxt }) ∧
    (s.Next 2 nxt → ∃ (w : Word) (fl : Byte), w.toNat = (s.sp.toNat + sext e) % 65536 ∧ SpAddFlags s.sp e fl ∧
      exec (.addSpE e) s = .next { s with sp := w, f := fl, pc := nxt })

/-! Rotates, shifts and bits. -/

/-- 45_rotate_shift.md R275 to R278: the accumulator rotates, which clear Z. -/
def Obligations.AccumulatorRotatesClearZ : Prop :=
  ∀ (s : State) (nxt : Word) (k : Fin 4) (op : ShiftOp) (rest : List Byte), op.code = k.val →
    decode (byte (0x07 + 8 * k.val) :: rest) = .ok (.ofRotateA k, rest) ∧
    (s.Next 1 nxt → ∃ v fl c, Shifts op s.a (bitC s.f) v c ∧ FlagsAre fl false false false c 0 ∧
      exec (.ofRotateA k) s = .next { s with a := v, f := fl, pc := nxt })

/-- 45_rotate_shift.md R280, R282, R284, R286, R288, R290, R292, R294: the 0xCB rotates, shifts and SWAP of a register. -/
def Obligations.ShiftRegisterResultAndFlags : Prop :=
  ∀ (s : State) (nxt : Word) (k : ShiftOp) (r : R8) (rest : List Byte),
    decode (0xCB :: byte (8 * k.code + r.code) :: rest) = .ok (.ofShiftReg k r, rest) ∧
    (s.Next 2 nxt → ∃ v fl c, Shifts k (s.r8 r) (bitC s.f) v c ∧ FlagsAre fl (decide (v.toNat = 0)) false false c 0 ∧
      exec (.ofShiftReg k r) s = .next { State.setR8 { s with f := fl } r v with pc := nxt })

/-- 45_rotate_shift.md R281, R283, R285, R287, R289, R291, R293, R295: the same of the byte at (HL). -/
def Obligations.ShiftMemoryResultAndFlags : Prop :=
  ∀ (s : State) (k : ShiftOp) (rest : List Byte),
    decode (0xCB :: byte (8 * k.code + 6) :: rest) = .ok (.ofShiftMemHl k, rest) ∧
    ∃ v fl c, Shifts k (s.readByte s.hl) (bitC s.f) v c ∧ FlagsAre fl (decide (v.toNat = 0)) false false c 0 ∧
      StoreAnswer s (.ofShiftMemHl k) 2 s.hl v fun t => { t with f := fl }

/-- 46_bit.md R300, R301: BIT, which writes F only. -/
def Obligations.BitTestWritesFlagsOnly : Prop :=
  ∀ (s : State) (nxt : Word) (b : Fin 8) (r : R8) (rest : List Byte),
    decode (0xCB :: byte (0x40 + 8 * b.val + r.code) :: rest) = .ok (.ofBitReg b r, rest) ∧
    decode (0xCB :: byte (0x46 + 8 * b.val) :: rest) = .ok (.ofBitMemHl b, rest) ∧
    (s.Next 2 nxt → ∃ fl, FlagsAre fl (decide ((s.r8 r).toNat / 2 ^ b.val % 2 = 0)) false true (bitC s.f) (lowNibble s.f) ∧
      exec (.ofBitReg b r) s = .next { s with f := fl, pc := nxt }) ∧
    (s.Next 2 nxt →
      ∃ fl, FlagsAre fl (decide ((s.readByte s.hl).toNat / 2 ^ b.val % 2 = 0)) false true (bitC s.f) (lowNibble s.f) ∧
        exec (.ofBitMemHl b) s = .next { s with f := fl, pc := nxt })

/-- 46_bit.md R302, R304: RES and SET of a register. -/
def Obligations.ResSetRegisterOneBit : Prop :=
  ∀ (s : State) (nxt : Word) (b : Fin 8) (r : R8) (rest : List Byte),
    decode (0xCB :: byte (0x80 + 8 * b.val + r.code) :: rest) = .ok (.ofResReg b r, rest) ∧
    decode (0xCB :: byte (0xC0 + 8 * b.val + r.code) :: rest) = .ok (.ofSetReg b r, rest) ∧
    (s.Next 2 nxt → ∃ v : Byte, v.toNat = without (s.r8 r) b.val ∧
      exec (.ofResReg b r) s = .next { s.setR8 r v with pc := nxt }) ∧
    (s.Next 2 nxt → ∃ v : Byte, v.toNat = with1 (s.r8 r) b.val ∧
      exec (.ofSetReg b r) s = .next { s.setR8 r v with pc := nxt })

/-- 46_bit.md R303, R305: RES and SET of the byte at (HL). -/
def Obligations.ResSetMemoryOneBit : Prop :=
  ∀ (s : State) (b : Fin 8) (rest : List Byte),
    decode (0xCB :: byte (0x86 + 8 * b.val) :: rest) = .ok (.ofResMemHl b, rest) ∧
    decode (0xCB :: byte (0xC6 + 8 * b.val) :: rest) = .ok (.ofSetMemHl b, rest) ∧
    (∃ v : Byte, v.toNat = without (s.readByte s.hl) b.val ∧ StoreAnswer s (.ofResMemHl b) 2 s.hl v id) ∧
    ∃ v : Byte, v.toNat = with1 (s.readByte s.hl) b.val ∧ StoreAnswer s (.ofSetMemHl b) 2 s.hl v id

/-! Control flow. -/

/-- 47_control.md R310 to R313: JP nn, JP cc,nn and JP HL, with the condition codes. -/
def Obligations.AbsoluteJumpsSetPc : Prop :=
  ∀ (s : State) (nxt nn : Word) (k : Cond) (rest : List Byte),
    decode (0xC3 :: byte (nn.toNat % 256) :: byte (nn.toNat / 256) :: rest) = .ok (.jpNn nn, rest) ∧
    decode (byte (0xC2 + 8 * k.code) :: byte (nn.toNat % 256) :: byte (nn.toNat / 256) :: rest)
      = .ok (.ofJpCond k nn, rest) ∧
    decode (0xE9 :: rest) = .ok (.jpHl, rest) ∧
    exec (.jpNn nn) s = .next { s with pc := nn } ∧
    (Holds k s.f → exec (.ofJpCond k nn) s = .next { s with pc := nn }) ∧
    (¬Holds k s.f → s.Next 3 nxt → exec (.ofJpCond k nn) s = .next { s with pc := nxt }) ∧
    exec .jpHl s = .next { s with pc := s.hl }

/-- 47_control.md R314, R315: JR e and JR cc,e. -/
def Obligations.RelativeJumpsFromNext : Prop :=
  ∀ (s : State) (nxt : Word) (k : Cond) (e : Byte) (rest : List Byte),
    decode (0x18 :: e :: rest) = .ok (.jrE e, rest) ∧
    decode (byte (0x20 + 8 * k.code) :: e :: rest) = .ok (.ofJrCond k e, rest) ∧
    (s.Next 2 nxt →
      (∀ target, s.Addr (nxt.toNat + sint e) target → exec (.jrE e) s = .next { s with pc := target }) ∧
      (s.OutOfRange (nxt.toNat + sint e) → Raises s (exec (.jrE e) s) (.addressRange (nxt.toNat + sint e))) ∧
      (Holds k s.f →
        (∀ target, s.Addr (nxt.toNat + sint e) target → exec (.ofJrCond k e) s = .next { s with pc := target }) ∧
        (s.OutOfRange (nxt.toNat + sint e) →
          Raises s (exec (.ofJrCond k e) s) (.addressRange (nxt.toNat + sint e)))) ∧
      (¬Holds k s.f → exec (.ofJrCond k e) s = .next { s with pc := nxt }))

/-- 47_control.md R316, R317, R321: CALL nn, CALL cc,nn and RST t. -/
def Obligations.CallsPushNext : Prop :=
  ∀ (s : State) (nxt nn : Word) (k : Cond) (t : Fin 8) (rest : List Byte),
    decode (0xCD :: byte (nn.toNat % 256) :: byte (nn.toNat / 256) :: rest) = .ok (.callNn nn, rest) ∧
    decode (byte (0xC4 + 8 * k.code) :: byte (nn.toNat % 256) :: byte (nn.toNat / 256) :: rest)
      = .ok (.ofCallCond k nn, rest) ∧
    decode (byte (0xC7 + 8 * t.val) :: rest) = .ok (.ofRestart t, rest) ∧
    (s.Next 3 nxt → PushAnswer s nxt (exec (.callNn nn) s) fun u => { u with pc := nn }) ∧
    (s.Next 3 nxt → Holds k s.f → PushAnswer s nxt (exec (.ofCallCond k nn) s) fun u => { u with pc := nn }) ∧
    (s.Next 3 nxt → ¬Holds k s.f → exec (.ofCallCond k nn) s = .next { s with pc := nxt }) ∧
    (s.Next 1 nxt → PushAnswer s nxt (exec (.ofRestart t) s) fun u => { u with pc := BitVec.ofNat 16 (8 * t.val) })

/-- 47_control.md R318, R319, R320: RET, RET cc and RETI. -/
def Obligations.ReturnsPopPc : Prop :=
  ∀ (s : State) (nxt : Word) (k : Cond) (rest : List Byte),
    decode (0xC9 :: rest) = .ok (.ret, rest) ∧ decode (byte (0xC0 + 8 * k.code) :: rest) = .ok (.ofRetCond k, rest) ∧
    decode (0xD9 :: rest) = .ok (.reti, rest) ∧
    PopAnswer s (exec .ret s) (fun w t => { t with pc := w }) ∧
    (Holds k s.f → PopAnswer s (exec (.ofRetCond k) s) fun w t => { t with pc := w }) ∧
    (¬Holds k s.f → s.Next 1 nxt → exec (.ofRetCond k) s = .next { s with pc := nxt }) ∧
    PopAnswer s (exec .reti s) fun w t => { t with pc := w, ime := true, eiPending := false }

/-! The interrupt controller and the PPU. -/

/-- 60_exceptions.md R352: the interrupt-controller phase with any hook: nothing with IME = 0; else the sources active at its
start, in ascending bit order, each clearing its IF bit before its hook. That the phase ends at the first fault is an inference of
the spec (R348), and that a hook raises one by recording it the model's reading (log entry 20). -/
def Obligations.ControllerServicesActiveAscending : Prop :=
  ∀ (hook : Nat → State → State) (s : State),
    (s.ime = false → icPhase hook s = .ok s) ∧
    (s.ime = true → ServicedInTurn hook (active s) [0, 1, 2, 3, 4] s (icPhase hook s))

/-- What R352 and R355 of 60_exceptions.md come to with the identity hook: IF loses the active bits, and no register, not
even IME, and no other byte changes; nothing is raised where a store at IF_ADDR raises nothing, as at the defaults. -/
def Obligations.IdentityHookClearsActiveBits : Prop :=
  ∀ s : State, s.fault = none → s.ime = true → (∀ v, s.storeFault s.cfg.params.ifAddr v = none) →
    ∃ t, icPhase intHook s = .ok t ∧ (active s = 0 → t = s) ∧
      (active s ≠ 0 → s.StoredByte t s.cfg.params.ifAddr (pendingByte s &&& (0xFF ^^^ active s)))

/-- 60_exceptions.md R363 to R367: one transition of the PPU in each mode; nothing but the PPU's state and the LY byte
changes. The direct store of R367 is a `MemWrite` where LY_ADDR is outside the ROM window and the mirrored ranges. A scanline
above 255 is stored in LY modulo 256, the model's choice (log entry 26); none is reached at the defaults. -/
def Obligations.PpuTransitionsByMode : Prop :=
  ∀ s : State,
    (s.ppuMode = .hblank → ∃ m, s.PokedByte m s.cfg.params.lyAddr (byte (s.ppuLy + 1)) ∧
      ppuPhase s = { m with
        ppuLy := s.ppuLy + 1, ppuMode := if s.cfg.params.ppuVblankFirst ≤ s.ppuLy + 1 then .vblank else .hblank }) ∧
    (s.ppuMode = .vblank → s.ppuLy + 1 ≠ s.cfg.params.ppuVblankLast + 1 →
      ∃ m, s.PokedByte m s.cfg.params.lyAddr (byte (s.ppuLy + 1)) ∧ ppuPhase s = { m with ppuLy := s.ppuLy + 1 }) ∧
    (s.ppuMode = .vblank → s.ppuLy + 1 = s.cfg.params.ppuVblankLast + 1 →
      ∃ m, s.PokedByte m s.cfg.params.lyAddr 0x00 ∧ ppuPhase s = { m with ppuLy := 0, ppuMode := .oamRead, ppuSub := 0 }) ∧
    (s.ppuMode = .oamRead → s.ppuSub + 1 ≠ s.cfg.params.ppuOamSteps → ppuPhase s = { s with ppuSub := s.ppuSub + 1 }) ∧
    (s.ppuMode = .oamRead → s.ppuSub + 1 = s.cfg.params.ppuOamSteps →
      ppuPhase s = { s with ppuSub := 0, ppuMode := .oamVramRead }) ∧
    (s.ppuMode = .oamVramRead → s.ppuSub + 1 ≠ s.cfg.params.ppuVramSteps → ppuPhase s = { s with ppuSub := s.ppuSub + 1 }) ∧
    (s.ppuMode = .oamVramRead → s.ppuSub + 1 = s.cfg.params.ppuVramSteps →
      ppuPhase s = { s with ppuSub := 0, ppuMode := .hblank }) ∧
    ∀ m v, ¬s.InRom s.cfg.params.lyAddr → ¬s.cfg.params.Echoed s.cfg.params.lyAddr.toNat →
      s.PokedByte m s.cfg.params.lyAddr v → s.StoredByte m s.cfg.params.lyAddr v

/-- The PPU's cycle of 554 steps at the default parameters, an inference of the spec (60_exceptions.md R368), from any state
whose PPU is as after reset: its state and the LY byte after any number of its phases. -/
def Obligations.PpuCycleOf554 : Prop :=
  ∀ (s t : State) (k m : Nat), s.cfg.params = defaultParams → s.ppuMode = .hblank → s.ppuLy = 0 → s.ppuSub = 0 → t = ppuPhase^[k] s → m = k % 554 →
    (m < 144 → t.ppuMode = .hblank ∧ t.ppuLy = m ∧ t.ppuSub = 0) ∧
    (144 ≤ m → m < 154 → t.ppuMode = .vblank ∧ t.ppuLy = m ∧ t.ppuSub = 0) ∧
    (154 ≤ m → m < 354 → t.ppuMode = .oamRead ∧ t.ppuLy = 0 ∧ t.ppuSub = m - 154) ∧
    (354 ≤ m → t.ppuMode = .oamVramRead ∧ t.ppuLy = 0 ∧ t.ppuSub = m - 354) ∧
    (1 ≤ k → t.readByte 0xFF44 = byte (if m ≤ 153 then m else 0)) ∧
    ∀ x, x ≠ 0xFF44 → t.readByte x = s.readByte x

/-! Whole-machine rules. -/

/-- The invariant of `StepKeepsInvariant` holds after reset (10_state.md R27, R33, R36, R37; 20_memory.md R66). Its clauses that
memory and image are in canonical form and that the parameters are legal are the model's own (log entries 4, 7 and 26). -/
def Obligations.ResetMeetsInvariant : Prop := State.reset.Inv

/-- Every step keeps the invariant: the low nibble of F at 0, the echo region equal to what it mirrors, the PPU's counters in
range, ei_pending only with a delayed EI (10_state.md R27, R33, R36, R37; 20_memory.md R66). Its clauses that memory and image are
in canonical form and that the parameters are legal are the model's own (log entries 4, 7 and 26). -/
def Obligations.StepKeepsInvariant : Prop := ∀ s t : State, s.Inv → step s = .next t → t.Inv

/-- 20_memory.md R61 and R77, 70_reset_and_hazards.md R398: no step changes the cartridge image, its bank mode or the
configuration, so code in the ROM window cannot be modified; nor how far the host's launch has come (the model's own field, log
entry 25), so that after a reset no load ever has a move again (R403). -/
def Obligations.StepKeepsCartridge : Prop :=
  ∀ s t : State, step s = .next t → t.rom = s.rom ∧ t.bankMode = s.bankMode ∧ t.launch = s.launch ∧ t.cfg = s.cfg ∧
    ∀ x : Word, s.InRom x → t.readByte x = s.readByte x

/-- Only DI, EI and RETI write IME or ei_pending, only HALT writes halted, and no instruction writes the PPU's state (10_state.md
R32 to R36, taken over all instructions). -/
def Obligations.OnlyNamedInstructionsWriteControlState : Prop :=
  ∀ (i : Instr) (s t : State), exec i s = .next t →
    (t.ime ≠ s.ime ∨ t.eiPending ≠ s.eiPending → i = .di ∨ i = .ei ∨ i = .reti) ∧
    (t.halted ≠ s.halted → i = .halt) ∧
    t.ppuMode = s.ppuMode ∧ t.ppuLy = s.ppuLy ∧ t.ppuSub = s.ppuSub

/-- An inference of the spec (40_engine.md R135; 60_exceptions.md R348), for the address `next` (00_scope.md R14, R15): every
instruction that is not PC-mutating and raises nothing ends at `addr16(addr + len)`, its own length further; where that address
is out of range it raises AddressRange of it if its handler raises nothing, that is if the same instruction at some address `q`
completes; and so do a conditional jump or return not taken, and a relative jump, call or restart, which compute `next` whether
taken or not (log entry 18). -/
def Obligations.PcAdvanceByLength : Prop :=
  (∀ (i : Instr) (s t : State) (q : Word), ¬PcMutating i → s.fault = none →
    (exec i s = .next t → t.fault = none → s.Next (encode i).length t.pc) ∧
    (exec i { s with pc := q } = .next t → t.fault = none → s.OutOfRange (s.pc.toNat + (encode i).length) →
      Raises s (exec i s) (.addressRange (s.pc.toNat + (encode i).length)))) ∧
  ∀ (s : State) (k : Cond) (nn : Word) (e : Byte) (t : Fin 8),
    (s.OutOfRange (s.pc.toNat + 3) →
      Raises s (exec (.callNn nn) s) (.addressRange (s.pc.toNat + 3)) ∧
        Raises s (exec (.ofCallCond k nn) s) (.addressRange (s.pc.toNat + 3)) ∧
        (¬Holds k s.f → Raises s (exec (.ofJpCond k nn) s) (.addressRange (s.pc.toNat + 3)))) ∧
    (s.OutOfRange (s.pc.toNat + 2) →
      Raises s (exec (.jrE e) s) (.addressRange (s.pc.toNat + 2)) ∧
        Raises s (exec (.ofJrCond k e) s) (.addressRange (s.pc.toNat + 2))) ∧
    (s.OutOfRange (s.pc.toNat + 1) →
      Raises s (exec (.ofRestart t) s) (.addressRange (s.pc.toNat + 1)) ∧
        (¬Holds k s.f → Raises s (exec (.ofRetCond k) s) (.addressRange (s.pc.toNat + 1))))

end
end

