-- ==== Sys2Proof/Laws/Memory.lean ====
section
/-! SUPPORT. The laws of the byte stores, for ANY list (no canonical form assumed): a read after a write gives the byte written
or, elsewhere, the byte that was there; every operation keeps the canonical form. -/

namespace Sys2Proof.Machine

variable {dflt : Nat → Byte}

theorem Mem.read_erase (m : Mem) (a x : Nat) :
    Mem.read dflt (Mem.erase m a) x = if x = a then dflt x else Mem.read dflt m x := by
  induction m with
  | nil => simp [Mem.erase, Mem.read]
  | cons cell m ih =>
    by_cases hc : cell.1 = a <;> by_cases hx : x = a <;> by_cases hcx : cell.1 = x <;>
      simp_all [Mem.erase, Mem.read]

theorem Mem.read_insert_ne (m : Mem) (a x : Nat) (v : Byte) (h : x ≠ a) :
    Mem.read dflt (Mem.insert m a v) x = Mem.read dflt m x := by
  induction m with
  | nil => simp [Mem.insert, Mem.read, Ne.symm h]
  | cons cell m ih => by_cases hl : a < cell.1 <;> simp [Mem.insert, Mem.read, hl, Ne.symm h, ih]

theorem Mem.read_insert_erase (m : Mem) (a : Nat) (v : Byte) :
    Mem.read dflt (Mem.insert (Mem.erase m a) a v) a = v := by
  induction m with
  | nil => simp [Mem.erase, Mem.insert, Mem.read]
  | cons cell m ih =>
    by_cases hc : cell.1 = a
    · simpa [Mem.erase, hc] using ih
    · by_cases hl : a < cell.1 <;> simp [Mem.erase, hc, Mem.insert, hl, Mem.read, ih]

/-- A read after a write. -/
@[simp] theorem Mem.read_write (m : Mem) (a x : Nat) (v : Byte) :
    Mem.read dflt (Mem.write dflt m a v) x = if x = a then v else Mem.read dflt m x := by
  unfold Mem.write
  split
  · rename_i hv
    rw [Mem.read_erase]
    split <;> simp_all
  · by_cases hx : x = a
    · subst hx
      simp [Mem.read_insert_erase]
    · simp [hx, Mem.read_insert_ne _ _ _ _ hx, Mem.read_erase]

theorem Mem.wf_cons (cell : Host.Cell) (m : Mem) :
    Mem.wf dflt (cell :: m) = true ↔
      cell.2 ≠ dflt cell.1 ∧ (∀ next ∈ m, cell.1 < next.1) ∧ Mem.wf dflt m = true := by
  simp [Mem.wf, and_assoc]

theorem Mem.mem_erase (m : Mem) (a : Nat) (cell : Host.Cell) : cell ∈ Mem.erase m a → cell ∈ m ∧ cell.1 ≠ a := by
  induction m with
  | nil => simp [Mem.erase]
  | cons c m ih =>
    by_cases hc : c.1 = a
    · intro h
      simp only [Mem.erase, hc, if_true] at h
      exact ⟨List.mem_cons_of_mem _ (ih h).1, (ih h).2⟩
    · intro h
      simp only [Mem.erase, hc, if_false, List.mem_cons] at h
      rcases h with rfl | h
      · exact ⟨List.mem_cons_self, hc⟩
      · exact ⟨List.mem_cons_of_mem _ (ih h).1, (ih h).2⟩

theorem Mem.wf_erase (m : Mem) (a : Nat) (h : Mem.wf dflt m = true) : Mem.wf dflt (Mem.erase m a) = true := by
  induction m with
  | nil => rfl
  | cons c m ih =>
    rw [Mem.wf_cons] at h
    by_cases hc : c.1 = a
    · simpa [Mem.erase, hc] using ih h.2.2
    · simp only [Mem.erase, hc, if_false]
      rw [Mem.wf_cons]
      exact ⟨h.1, fun n hn => h.2.1 n (Mem.mem_erase m a n hn).1, ih h.2.2⟩

theorem Mem.mem_insert (m : Mem) (a : Nat) (v : Byte) (cell : Host.Cell) :
    cell ∈ Mem.insert m a v → cell = (a, v) ∨ cell ∈ m := by
  induction m with
  | nil => simp [Mem.insert]
  | cons c m ih =>
    by_cases hl : a < c.1
    · simp [Mem.insert, hl]
    · intro h
      simp only [Mem.insert, hl, if_false, List.mem_cons] at h
      rcases h with rfl | h
      · exact .inr List.mem_cons_self
      · exact (ih h).imp id (List.mem_cons_of_mem _)

theorem Mem.wf_insert (m : Mem) (a : Nat) (v : Byte) (hv : v ≠ dflt a) (hm : ∀ cell ∈ m, cell.1 ≠ a)
    (h : Mem.wf dflt m = true) : Mem.wf dflt (Mem.insert m a v) = true := by
  induction m with
  | nil => simp [Mem.insert, Mem.wf, hv]
  | cons c m ih =>
    have hw := (Mem.wf_cons c m).1 h
    by_cases hl : a < c.1
    · simp only [Mem.insert, hl, if_true]
      refine (Mem.wf_cons _ _).2 ⟨hv, fun n hn => ?_, h⟩
      rcases List.mem_cons.1 hn with rfl | hn
      · exact hl
      · exact hl.trans (hw.2.1 n hn)
    · have hne : c.1 ≠ a := hm c List.mem_cons_self
      simp only [Mem.insert, hl, if_false]
      refine (Mem.wf_cons _ _).2 ⟨hw.1, fun n hn => ?_, ih (fun x hx => hm x (List.mem_cons_of_mem _ hx)) hw.2.2⟩
      rcases Mem.mem_insert m a v n hn with rfl | hn
      · show c.1 < a
        omega
      · exact hw.2.1 n hn

/-- A write keeps the canonical form. -/
theorem Mem.wf_write (m : Mem) (a : Nat) (v : Byte) (h : Mem.wf dflt m = true) :
    Mem.wf dflt (Mem.write dflt m a v) = true := by
  unfold Mem.write
  split
  · exact Mem.wf_erase m a h
  · rename_i hv
    exact Mem.wf_insert _ a v hv (fun c hc => (Mem.mem_erase m a c hc).2) (Mem.wf_erase m a h)

theorem romOfBytes_ge (i : Nat) (bytes : List Byte) : ∀ cell ∈ romOfBytes i bytes, i ≤ cell.1 := by
  induction bytes generalizing i with
  | nil => simp [romOfBytes]
  | cons v vs ih =>
    intro cell hc
    by_cases hv : v = 0
    · simp only [romOfBytes, hv, if_true] at hc
      have := ih (i + 1) cell hc
      omega
    · simp only [romOfBytes, hv, if_false, List.mem_cons] at hc
      rcases hc with rfl | hc
      · exact le_rfl
      · have := ih (i + 1) cell hc
        omega

/-- A loaded image is in canonical form. -/
theorem romOfBytes_wf (i : Nat) (bytes : List Byte) : Mem.wf romDefault (romOfBytes i bytes) = true := by
  induction bytes generalizing i with
  | nil => rfl
  | cons v vs ih =>
    by_cases hv : v = 0
    · simpa [romOfBytes, hv] using ih (i + 1)
    · simp only [romOfBytes, hv, if_false]
      exact (Mem.wf_cons _ _).2 ⟨hv, fun n hn => romOfBytes_ge (i + 1) vs n hn, ih (i + 1)⟩

/-- An address below every listed one reads as unlisted. -/
theorem Mem.read_of_lt (m : Mem) (a : Nat) (hm : ∀ cell ∈ m, a < cell.1) : Mem.read dflt m a = dflt a := by
  induction m with
  | nil => rfl
  | cons c m ih =>
    have hc := hm c List.mem_cons_self
    rw [Mem.read, if_neg (by omega)]
    exact ih fun x hx => hm x (List.mem_cons_of_mem _ hx)

/-- A loaded image reads as its bytes, and as zero beyond them. -/
theorem Mem.read_romOfBytes (bytes : List Byte) (i k : Nat) :
    Mem.read romDefault (romOfBytes i bytes) (i + k) = bytes.getD k 0 := by
  induction bytes generalizing i k with
  | nil => simp [romOfBytes, Mem.read, romDefault]
  | cons v vs ih =>
    rw [romOfBytes]
    cases k with
    | zero =>
      split
      · rename_i hv
        show Mem.read romDefault (romOfBytes (i + 1) vs) i = v
        rw [Mem.read_of_lt _ _ fun c hc => romOfBytes_ge (i + 1) vs c hc, hv, romDefault]
      · simp [Mem.read]
    | succ k =>
      have := ih (i + 1) k
      rw [show i + (k + 1) = i + 1 + k by omega]
      split
      · simpa using this
      · rw [Mem.read, if_neg (show ¬ i = i + 1 + k by omega)]
        simpa using this

end Sys2Proof.Machine
end

