-- ==== Sys2Proof/Laws/State.lean ====
section
/-! SUPPORT. One lemma per field per named update of the state, so that no later proof unfolds a record update. -/

namespace Sys2Proof.Machine

variable (s : State)

@[simp] theorem State.pokeByte_a (x : Word) (v : Byte) : (s.pokeByte x v).a = s.a := rfl
@[simp] theorem State.pokeByte_f (x : Word) (v : Byte) : (s.pokeByte x v).f = s.f := rfl
@[simp] theorem State.pokeByte_b (x : Word) (v : Byte) : (s.pokeByte x v).b = s.b := rfl
@[simp] theorem State.pokeByte_c (x : Word) (v : Byte) : (s.pokeByte x v).c = s.c := rfl
@[simp] theorem State.pokeByte_d (x : Word) (v : Byte) : (s.pokeByte x v).d = s.d := rfl
@[simp] theorem State.pokeByte_e (x : Word) (v : Byte) : (s.pokeByte x v).e = s.e := rfl
@[simp] theorem State.pokeByte_h (x : Word) (v : Byte) : (s.pokeByte x v).h = s.h := rfl
@[simp] theorem State.pokeByte_l (x : Word) (v : Byte) : (s.pokeByte x v).l = s.l := rfl
@[simp] theorem State.pokeByte_sp (x : Word) (v : Byte) : (s.pokeByte x v).sp = s.sp := rfl
@[simp] theorem State.pokeByte_pc (x : Word) (v : Byte) : (s.pokeByte x v).pc = s.pc := rfl
@[simp] theorem State.pokeByte_ime (x : Word) (v : Byte) : (s.pokeByte x v).ime = s.ime := rfl
@[simp] theorem State.pokeByte_eiPending (x : Word) (v : Byte) : (s.pokeByte x v).eiPending = s.eiPending := rfl
@[simp] theorem State.pokeByte_halted (x : Word) (v : Byte) : (s.pokeByte x v).halted = s.halted := rfl
@[simp] theorem State.pokeByte_mem (x : Word) (v : Byte) : (s.pokeByte x v).mem = Mem.write (memDefault s.cfg.params) s.mem x.toNat v := rfl
@[simp] theorem State.pokeByte_ppuMode (x : Word) (v : Byte) : (s.pokeByte x v).ppuMode = s.ppuMode := rfl
@[simp] theorem State.pokeByte_ppuLy (x : Word) (v : Byte) : (s.pokeByte x v).ppuLy = s.ppuLy := rfl
@[simp] theorem State.pokeByte_ppuSub (x : Word) (v : Byte) : (s.pokeByte x v).ppuSub = s.ppuSub := rfl
@[simp] theorem State.pokeByte_fault (x : Word) (v : Byte) : (s.pokeByte x v).fault = s.fault := rfl
@[simp] theorem State.pokeByte_rom (x : Word) (v : Byte) : (s.pokeByte x v).rom = s.rom := rfl
@[simp] theorem State.pokeByte_bankMode (x : Word) (v : Byte) : (s.pokeByte x v).bankMode = s.bankMode := rfl
@[simp] theorem State.pokeByte_launch (x : Word) (v : Byte) : (s.pokeByte x v).launch = s.launch := rfl
@[simp] theorem State.pokeByte_cfg (x : Word) (v : Byte) : (s.pokeByte x v).cfg = s.cfg := rfl

@[simp] theorem State.takeFault_a (x : Fault) : (s.takeFault x).a = s.a := rfl
@[simp] theorem State.takeFault_f (x : Fault) : (s.takeFault x).f = s.f := rfl
@[simp] theorem State.takeFault_b (x : Fault) : (s.takeFault x).b = s.b := rfl
@[simp] theorem State.takeFault_c (x : Fault) : (s.takeFault x).c = s.c := rfl
@[simp] theorem State.takeFault_d (x : Fault) : (s.takeFault x).d = s.d := rfl
@[simp] theorem State.takeFault_e (x : Fault) : (s.takeFault x).e = s.e := rfl
@[simp] theorem State.takeFault_h (x : Fault) : (s.takeFault x).h = s.h := rfl
@[simp] theorem State.takeFault_l (x : Fault) : (s.takeFault x).l = s.l := rfl
@[simp] theorem State.takeFault_sp (x : Fault) : (s.takeFault x).sp = s.sp := rfl
@[simp] theorem State.takeFault_pc (x : Fault) : (s.takeFault x).pc = s.pc := rfl
@[simp] theorem State.takeFault_ime (x : Fault) : (s.takeFault x).ime = s.ime := rfl
@[simp] theorem State.takeFault_eiPending (x : Fault) : (s.takeFault x).eiPending = s.eiPending := rfl
@[simp] theorem State.takeFault_halted (x : Fault) : (s.takeFault x).halted = s.halted := rfl
@[simp] theorem State.takeFault_mem (x : Fault) : (s.takeFault x).mem = s.mem := rfl
@[simp] theorem State.takeFault_ppuMode (x : Fault) : (s.takeFault x).ppuMode = s.ppuMode := rfl
@[simp] theorem State.takeFault_ppuLy (x : Fault) : (s.takeFault x).ppuLy = s.ppuLy := rfl
@[simp] theorem State.takeFault_ppuSub (x : Fault) : (s.takeFault x).ppuSub = s.ppuSub := rfl
@[simp] theorem State.takeFault_fault (x : Fault) : (s.takeFault x).fault = some x := rfl
@[simp] theorem State.takeFault_rom (x : Fault) : (s.takeFault x).rom = s.rom := rfl
@[simp] theorem State.takeFault_bankMode (x : Fault) : (s.takeFault x).bankMode = s.bankMode := rfl
@[simp] theorem State.takeFault_launch (x : Fault) : (s.takeFault x).launch = s.launch := rfl
@[simp] theorem State.takeFault_cfg (x : Fault) : (s.takeFault x).cfg = s.cfg := rfl

@[simp] theorem State.enableInterrupts_a : s.enableInterrupts.a = s.a := rfl
@[simp] theorem State.enableInterrupts_f : s.enableInterrupts.f = s.f := rfl
@[simp] theorem State.enableInterrupts_b : s.enableInterrupts.b = s.b := rfl
@[simp] theorem State.enableInterrupts_c : s.enableInterrupts.c = s.c := rfl
@[simp] theorem State.enableInterrupts_d : s.enableInterrupts.d = s.d := rfl
@[simp] theorem State.enableInterrupts_e : s.enableInterrupts.e = s.e := rfl
@[simp] theorem State.enableInterrupts_h : s.enableInterrupts.h = s.h := rfl
@[simp] theorem State.enableInterrupts_l : s.enableInterrupts.l = s.l := rfl
@[simp] theorem State.enableInterrupts_sp : s.enableInterrupts.sp = s.sp := rfl
@[simp] theorem State.enableInterrupts_pc : s.enableInterrupts.pc = s.pc := rfl
@[simp] theorem State.enableInterrupts_ime : s.enableInterrupts.ime = true := rfl
@[simp] theorem State.enableInterrupts_eiPending : s.enableInterrupts.eiPending = false := rfl
@[simp] theorem State.enableInterrupts_halted : s.enableInterrupts.halted = s.halted := rfl
@[simp] theorem State.enableInterrupts_mem : s.enableInterrupts.mem = s.mem := rfl
@[simp] theorem State.enableInterrupts_ppuMode : s.enableInterrupts.ppuMode = s.ppuMode := rfl
@[simp] theorem State.enableInterrupts_ppuLy : s.enableInterrupts.ppuLy = s.ppuLy := rfl
@[simp] theorem State.enableInterrupts_ppuSub : s.enableInterrupts.ppuSub = s.ppuSub := rfl
@[simp] theorem State.enableInterrupts_fault : s.enableInterrupts.fault = s.fault := rfl
@[simp] theorem State.enableInterrupts_rom : s.enableInterrupts.rom = s.rom := rfl
@[simp] theorem State.enableInterrupts_bankMode : s.enableInterrupts.bankMode = s.bankMode := rfl
@[simp] theorem State.enableInterrupts_launch : s.enableInterrupts.launch = s.launch := rfl
@[simp] theorem State.enableInterrupts_cfg : s.enableInterrupts.cfg = s.cfg := rfl

@[simp] theorem State.disableInterrupts_a : s.disableInterrupts.a = s.a := rfl
@[simp] theorem State.disableInterrupts_f : s.disableInterrupts.f = s.f := rfl
@[simp] theorem State.disableInterrupts_b : s.disableInterrupts.b = s.b := rfl
@[simp] theorem State.disableInterrupts_c : s.disableInterrupts.c = s.c := rfl
@[simp] theorem State.disableInterrupts_d : s.disableInterrupts.d = s.d := rfl
@[simp] theorem State.disableInterrupts_e : s.disableInterrupts.e = s.e := rfl
@[simp] theorem State.disableInterrupts_h : s.disableInterrupts.h = s.h := rfl
@[simp] theorem State.disableInterrupts_l : s.disableInterrupts.l = s.l := rfl
@[simp] theorem State.disableInterrupts_sp : s.disableInterrupts.sp = s.sp := rfl
@[simp] theorem State.disableInterrupts_pc : s.disableInterrupts.pc = s.pc := rfl
@[simp] theorem State.disableInterrupts_ime : s.disableInterrupts.ime = false := rfl
@[simp] theorem State.disableInterrupts_eiPending : s.disableInterrupts.eiPending = false := rfl
@[simp] theorem State.disableInterrupts_halted : s.disableInterrupts.halted = s.halted := rfl
@[simp] theorem State.disableInterrupts_mem : s.disableInterrupts.mem = s.mem := rfl
@[simp] theorem State.disableInterrupts_ppuMode : s.disableInterrupts.ppuMode = s.ppuMode := rfl
@[simp] theorem State.disableInterrupts_ppuLy : s.disableInterrupts.ppuLy = s.ppuLy := rfl
@[simp] theorem State.disableInterrupts_ppuSub : s.disableInterrupts.ppuSub = s.ppuSub := rfl
@[simp] theorem State.disableInterrupts_fault : s.disableInterrupts.fault = s.fault := rfl
@[simp] theorem State.disableInterrupts_rom : s.disableInterrupts.rom = s.rom := rfl
@[simp] theorem State.disableInterrupts_bankMode : s.disableInterrupts.bankMode = s.bankMode := rfl
@[simp] theorem State.disableInterrupts_launch : s.disableInterrupts.launch = s.launch := rfl
@[simp] theorem State.disableInterrupts_cfg : s.disableInterrupts.cfg = s.cfg := rfl

@[simp] theorem State.setR8_f (r : R8) (v : Byte) : (s.setR8 r v).f = s.f := by cases r <;> rfl
@[simp] theorem State.setR8_sp (r : R8) (v : Byte) : (s.setR8 r v).sp = s.sp := by cases r <;> rfl
@[simp] theorem State.setR8_pc (r : R8) (v : Byte) : (s.setR8 r v).pc = s.pc := by cases r <;> rfl
@[simp] theorem State.setR8_ime (r : R8) (v : Byte) : (s.setR8 r v).ime = s.ime := by cases r <;> rfl
@[simp] theorem State.setR8_eiPending (r : R8) (v : Byte) : (s.setR8 r v).eiPending = s.eiPending := by cases r <;> rfl
@[simp] theorem State.setR8_halted (r : R8) (v : Byte) : (s.setR8 r v).halted = s.halted := by cases r <;> rfl
@[simp] theorem State.setR8_mem (r : R8) (v : Byte) : (s.setR8 r v).mem = s.mem := by cases r <;> rfl
@[simp] theorem State.setR8_ppuMode (r : R8) (v : Byte) : (s.setR8 r v).ppuMode = s.ppuMode := by cases r <;> rfl
@[simp] theorem State.setR8_ppuLy (r : R8) (v : Byte) : (s.setR8 r v).ppuLy = s.ppuLy := by cases r <;> rfl
@[simp] theorem State.setR8_ppuSub (r : R8) (v : Byte) : (s.setR8 r v).ppuSub = s.ppuSub := by cases r <;> rfl
@[simp] theorem State.setR8_fault (r : R8) (v : Byte) : (s.setR8 r v).fault = s.fault := by cases r <;> rfl
@[simp] theorem State.setR8_rom (r : R8) (v : Byte) : (s.setR8 r v).rom = s.rom := by cases r <;> rfl
@[simp] theorem State.setR8_bankMode (r : R8) (v : Byte) : (s.setR8 r v).bankMode = s.bankMode := by cases r <;> rfl
@[simp] theorem State.setR8_launch (r : R8) (v : Byte) : (s.setR8 r v).launch = s.launch := by cases r <;> rfl
@[simp] theorem State.setR8_cfg (r : R8) (v : Byte) : (s.setR8 r v).cfg = s.cfg := by cases r <;> rfl

@[simp] theorem State.setPair_a (p : Pair) (v : Word) : (s.setPair p v).a = s.a := by cases p <;> rfl
@[simp] theorem State.setPair_f (p : Pair) (v : Word) : (s.setPair p v).f = s.f := by cases p <;> rfl
@[simp] theorem State.setPair_pc (p : Pair) (v : Word) : (s.setPair p v).pc = s.pc := by cases p <;> rfl
@[simp] theorem State.setPair_ime (p : Pair) (v : Word) : (s.setPair p v).ime = s.ime := by cases p <;> rfl
@[simp] theorem State.setPair_eiPending (p : Pair) (v : Word) : (s.setPair p v).eiPending = s.eiPending := by cases p <;> rfl
@[simp] theorem State.setPair_halted (p : Pair) (v : Word) : (s.setPair p v).halted = s.halted := by cases p <;> rfl
@[simp] theorem State.setPair_mem (p : Pair) (v : Word) : (s.setPair p v).mem = s.mem := by cases p <;> rfl
@[simp] theorem State.setPair_ppuMode (p : Pair) (v : Word) : (s.setPair p v).ppuMode = s.ppuMode := by cases p <;> rfl
@[simp] theorem State.setPair_ppuLy (p : Pair) (v : Word) : (s.setPair p v).ppuLy = s.ppuLy := by cases p <;> rfl
@[simp] theorem State.setPair_ppuSub (p : Pair) (v : Word) : (s.setPair p v).ppuSub = s.ppuSub := by cases p <;> rfl
@[simp] theorem State.setPair_fault (p : Pair) (v : Word) : (s.setPair p v).fault = s.fault := by cases p <;> rfl
@[simp] theorem State.setPair_rom (p : Pair) (v : Word) : (s.setPair p v).rom = s.rom := by cases p <;> rfl
@[simp] theorem State.setPair_bankMode (p : Pair) (v : Word) : (s.setPair p v).bankMode = s.bankMode := by cases p <;> rfl
@[simp] theorem State.setPair_launch (p : Pair) (v : Word) : (s.setPair p v).launch = s.launch := by cases p <;> rfl
@[simp] theorem State.setPair_cfg (p : Pair) (v : Word) : (s.setPair p v).cfg = s.cfg := by cases p <;> rfl

@[simp] theorem State.setStackPair_sp (p : StackPair) (v : Word) : (s.setStackPair p v).sp = s.sp := by cases p <;> rfl
@[simp] theorem State.setStackPair_pc (p : StackPair) (v : Word) : (s.setStackPair p v).pc = s.pc := by cases p <;> rfl
@[simp] theorem State.setStackPair_ime (p : StackPair) (v : Word) : (s.setStackPair p v).ime = s.ime := by cases p <;> rfl
@[simp] theorem State.setStackPair_eiPending (p : StackPair) (v : Word) : (s.setStackPair p v).eiPending = s.eiPending := by cases p <;> rfl
@[simp] theorem State.setStackPair_halted (p : StackPair) (v : Word) : (s.setStackPair p v).halted = s.halted := by cases p <;> rfl
@[simp] theorem State.setStackPair_mem (p : StackPair) (v : Word) : (s.setStackPair p v).mem = s.mem := by cases p <;> rfl
@[simp] theorem State.setStackPair_ppuMode (p : StackPair) (v : Word) : (s.setStackPair p v).ppuMode = s.ppuMode := by cases p <;> rfl
@[simp] theorem State.setStackPair_ppuLy (p : StackPair) (v : Word) : (s.setStackPair p v).ppuLy = s.ppuLy := by cases p <;> rfl
@[simp] theorem State.setStackPair_ppuSub (p : StackPair) (v : Word) : (s.setStackPair p v).ppuSub = s.ppuSub := by cases p <;> rfl
@[simp] theorem State.setStackPair_fault (p : StackPair) (v : Word) : (s.setStackPair p v).fault = s.fault := by cases p <;> rfl
@[simp] theorem State.setStackPair_rom (p : StackPair) (v : Word) : (s.setStackPair p v).rom = s.rom := by cases p <;> rfl
@[simp] theorem State.setStackPair_bankMode (p : StackPair) (v : Word) : (s.setStackPair p v).bankMode = s.bankMode := by cases p <;> rfl
@[simp] theorem State.setStackPair_launch (p : StackPair) (v : Word) : (s.setStackPair p v).launch = s.launch := by cases p <;> rfl
@[simp] theorem State.setStackPair_cfg (p : StackPair) (v : Word) : (s.setStackPair p v).cfg = s.cfg := by cases p <;> rfl

theorem State.r8_setR8 (r q : R8) (v : Byte) : (s.setR8 r v).r8 q = if q = r then v else s.r8 q := by
  cases r <;> cases q <;> rfl

@[simp] theorem State.r8_setR8_self (r : R8) (v : Byte) : (s.setR8 r v).r8 r = v := by cases r <;> rfl

end Sys2Proof.Machine
end

