-- ==== Sys2Proof/Laws/Ops.lean ====
section
/-! SUPPORT. What each shared operation can do, said once: addresses, memory accesses, the stack, completion. -/

namespace Sys2Proof.Machine

variable {s t : State}

/-! Addresses. -/

/-- Where `addr16` is defined it returns the address. -/
theorem State.addr16_ok {v : Int} {w : Word} (h : s.Addr v w) : s.addr16 v = .ok w := by
  have hw : BitVec.ofInt 16 v = w := by
    apply BitVec.eq_of_toNat_eq
    have := h.1
    rw [BitVec.toNat_ofInt]
    omega
  unfold State.addr16
  cases hc : s.cfg.addrOverflow with
  | wrap => simp [hw]
  | fault => simp [h.2 hc, hw]

/-- Out of range `addr16` raises AddressRange. -/
theorem State.addr16_error {v : Int} (h : s.OutOfRange v) : s.addr16 v = .error (.addressRange v) := by
  unfold State.addr16
  rw [h.1]
  have := h.2
  simp only
  rw [if_neg (by omega)]

/-- What `addr16` can do. -/
theorem State.addr16_cases (s : State) (v : Int) :
    (∃ w, s.Addr v w ∧ s.addr16 v = .ok w) ∨ (s.OutOfRange v ∧ s.addr16 v = .error (.addressRange v)) := by
  by_cases h : s.OutOfRange v
  · exact .inr ⟨h, State.addr16_error h⟩
  · have ha : s.Addr v (BitVec.ofInt 16 v) := by
      refine ⟨?_, fun hc => ?_⟩
      · rw [BitVec.toNat_ofInt]
        omega
      · by_contra hv
        exact h ⟨hc, by omega⟩
    exact .inl ⟨_, ha, State.addr16_ok ha⟩

/-- `addr16` looks only at the configuration. -/
theorem State.addr16_congr (h : s.cfg = t.cfg) (v : Int) : s.addr16 v = t.addr16 v := by
  unfold State.addr16
  rw [h]

/-- An address depends only on the configuration. -/
theorem State.Addr_congr (h : s.cfg = t.cfg) {v : Int} {w : Word} : s.Addr v w ↔ t.Addr v w := by
  unfold State.Addr
  rw [h]

/-- The address after an instruction. -/
theorem State.addrAdd_next {len : Nat} {w : Word} (h : s.Next len w) : s.addrAdd s.pc len = .ok w :=
  State.addr16_ok h

/-- What PC-advance can do (10_state.md R31). -/
theorem State.advancePc_cases (s : State) :
    (∃ w, s.Addr (s.pc.toNat + 1) w ∧ s.advancePc = .ok (s.pc, { s with pc := w })) ∨
      (s.OutOfRange (s.pc.toNat + 1) ∧ s.advancePc = .error (.addressRange (s.pc.toNat + 1))) := by
  rcases State.addr16_cases s (s.pc.toNat + 1) with ⟨w, hw, he⟩ | ⟨ho, he⟩
  · exact .inl ⟨w, hw, by simp [State.advancePc, State.addrAdd, he, bind, Except.bind]⟩
  · exact .inr ⟨ho, by simp [State.advancePc, State.addrAdd, he, bind, Except.bind]⟩

/-! Memory. -/

theorem State.inRomWindow_iff (a : Word) : inRomWindow s.cfg.params a = true ↔ s.InRom a := by simp [inRomWindow]

theorem State.inRomWindow_eq_false (a : Word) : inRomWindow s.cfg.params a = false ↔ ¬s.InRom a := by
  rw [← Bool.not_eq_true, State.inRomWindow_iff]

/-- A read inside and outside the ROM window. -/
theorem State.readByte_eq (a : Word) :
    s.readByte a = if s.InRom a then Mem.read romDefault s.rom a.toNat
      else Mem.read (memDefault s.cfg.params) s.mem a.toNat := by
  simp [State.readByte, inRomWindow]

/-- A read after a direct store. -/
theorem State.readByte_pokeByte (a x : Word) (v : Byte) :
    (s.pokeByte a v).readByte x = if x = a ∧ ¬s.InRom x then v else s.readByte x := by
  rw [State.readByte_eq, State.readByte_eq]
  simp only [State.pokeByte_cfg, State.pokeByte_rom, State.pokeByte_mem, State.InRom, Mem.read_write]
  by_cases hx : x.toNat ≤ s.cfg.params.romWindowEnd.toNat <;> simp [hx, BitVec.toNat_inj]

/-- What a direct store does. -/
theorem State.pokeByte_poked (a : Word) (v : Byte) : s.PokedByte (s.pokeByte a v) a v := by
  refine ⟨rfl, fun x => ?_⟩
  rw [State.readByte_pokeByte]
  by_cases h : x = a <;> simp [h]

/-- A direct store keeps the canonical form. -/
theorem State.pokeByte_canonical {a : Word} {v : Byte} (h : s.MemoryCanonical) : (s.pokeByte a v).MemoryCanonical :=
  ⟨Mem.wf_write s.mem a.toNat v h.1, h.2⟩

/-- What a store may change: memory alone, whose canonical form it keeps. -/
structure State.MemoryStep (s t : State) : Prop where
  only : t = { s with mem := t.mem }
  canonical : s.MemoryCanonical → t.MemoryCanonical

theorem State.MemoryStep.refl (s : State) : s.MemoryStep s := ⟨rfl, id⟩

theorem State.MemoryStep.trans {u : State} (h : s.MemoryStep t) (h' : t.MemoryStep u) : s.MemoryStep u :=
  ⟨by rw [h'.only, h.only], h'.canonical ∘ h.canonical⟩

theorem State.MemoryStep.cfg (h : s.MemoryStep t) : t.cfg = s.cfg := by rw [h.only]

theorem State.pokeByte_memoryStep (a : Word) (v : Byte) : s.MemoryStep (s.pokeByte a v) :=
  ⟨rfl, State.pokeByte_canonical⟩

/-- What one line of EchoMirror can do. -/
theorem State.mirrorByte_cases (s : State) (source target a : Word) (v : Byte) :
    (∃ f, s.echoFault source target a = some f ∧ s.mirrorByte source target a v = .error f) ∨
      (s.echoFault source target a = none ∧ ∃ t, s.mirrorByte source target a v = .ok t ∧ s.MemoryStep t ∧
        ∀ x : Word, t.readByte x =
          if (source.toNat ≤ a.toNat ∧ a.toNat < source.toNat + s.cfg.params.echoLen ∧
              x.toNat = (target.toNat + (a.toNat - source.toNat)) % 65536) ∧ ¬s.InRom x then v
          else s.readByte x) := by
  unfold State.mirrorByte
  by_cases hr : source.toNat ≤ a.toNat ∧ a.toNat < source.toNat + s.cfg.params.echoLen
  · rw [if_pos hr]
    rcases State.addr16_cases s ((target.toNat : Int) + (a.toNat - source.toNat : Nat)) with ⟨w, hw, he⟩ | ⟨ho, he⟩
    · have hn : s.echoFault source target a = none := by
        refine if_neg fun hc => ?_
        have := hw.2 hc.1
        omega
      refine .inr ⟨hn, s.pokeByte w v, by simp [State.addrAdd, he, bind, Except.bind], State.pokeByte_memoryStep w v, fun x => ?_⟩
      have hx : x = w ↔ x.toNat = (target.toNat + (a.toNat - source.toNat)) % 65536 := by
        rw [← BitVec.toNat_inj]
        have := hw.1
        omega
      rw [State.readByte_pokeByte]
      simp only [hx, hr, true_and]
    · refine .inl ⟨_, if_pos ⟨ho.1, hr.1, hr.2, ?_⟩, by simp [State.addrAdd, he, bind, Except.bind]⟩
      have := ho.2
      omega
  · rw [if_neg hr]
    exact .inr ⟨if_neg fun hc => hr ⟨hc.2.1, hc.2.2.1⟩, s, rfl, .refl s, fun x => (if_neg fun hc => hr ⟨hc.1.1, hc.1.2.1⟩).symm⟩

/-- What EchoMirror raises depends on the configuration only. -/
theorem State.echoFault_congr (h : s.cfg = t.cfg) (source target a : Word) :
    s.echoFault source target a = t.echoFault source target a := by
  unfold State.echoFault
  rw [h]

/-- What a store raises depends on the configuration only. -/
theorem State.storeFault_congr (h : s.cfg = t.cfg) (a : Word) (v : Byte) : s.storeFault a v = t.storeFault a v := by
  unfold State.storeFault State.InRom
  rw [State.echoFault_congr h, State.echoFault_congr h, h]

/-- Whether a store raises nothing does not depend on the byte. -/
theorem State.storeFault_none {a : Word} {v : Byte} (h : s.storeFault a v = none) (w : Byte) : s.storeFault a w = none := by
  unfold State.storeFault at h ⊢
  split at h
  · cases hr : s.cfg.romWrite with
    | ignore => simp [*]
    | fault => simp [hr] at h
  · simp [*]

/-- Three stores of one byte, read at one place. -/
theorem stackedStores {p q r e : Prop} [Decidable p] [Decidable q] [Decidable r] [Decidable e] (v w : Byte) :
    (if q ∧ ¬r then v else if p ∧ ¬r then v else if e ∧ ¬r then v else w) = if ¬r ∧ (e ∨ p ∨ q) then v else w := by
  by_cases r <;> by_cases q <;> by_cases p <;> by_cases e <;> simp [*]

/-- What a store outside the ROM window can do. -/
theorem State.storeByte_cases {a : Word} (v : Byte) (ha : ¬s.InRom a) :
    (∃ f, s.storeFault a v = some f ∧ s.storeByte a v = .error f) ∨
      (s.storeFault a v = none ∧ ∃ t, s.storeByte a v = .ok t ∧ s.MemoryStep t ∧ s.StoredByte t a v) := by
  have hp : s.MemoryStep (s.pokeByte a v) := State.pokeByte_memoryStep a v
  have hf : s.storeFault a v = (s.echoFault s.cfg.params.wramBase s.cfg.params.echoBase a).or
      (s.echoFault s.cfg.params.echoBase s.cfg.params.wramBase a) := if_neg ha
  unfold State.storeByte State.echoMirror
  rw [State.pokeByte_cfg, hf]
  rcases (s.pokeByte a v).mirrorByte_cases s.cfg.params.wramBase s.cfg.params.echoBase a v with
    ⟨f, hs, he⟩ | ⟨hs, m, hm, hstep, hread⟩
  · rw [State.echoFault_congr hp.cfg] at hs
    exact .inl ⟨f, by simp [hs], by simp [he, bind, Except.bind]⟩
  · rw [State.echoFault_congr hp.cfg] at hs
    simp only [hm, bind, Except.bind, hs, Option.none_or]
    rcases m.mirrorByte_cases s.cfg.params.echoBase s.cfg.params.wramBase a v with
      ⟨f, hs', he⟩ | ⟨hs', t, ht, hstep', hread'⟩
    · rw [State.echoFault_congr (hstep.cfg.trans hp.cfg)] at hs'
      exact .inl ⟨f, hs', he⟩
    · rw [State.echoFault_congr (hstep.cfg.trans hp.cfg)] at hs'
      have hall : s.MemoryStep t := (hp.trans hstep).trans hstep'
      refine .inr ⟨hs', t, ht, hall, hall.only, fun h => absurd h ha, fun x => ?_⟩
      have hr : t.readByte x = if s.Shows a x then v else s.readByte x := by
        rw [hread', hread, State.readByte_pokeByte]
        simp only [State.InRom, hstep.cfg, State.pokeByte_cfg, State.Shows, Params.Mirrors] at ha ⊢
        exact (stackedStores v (s.readByte x)).trans (if_congr (and_iff_right ha).symm rfl rfl)
      rw [hr]
      exact ⟨fun h => if_pos h, fun h => if_neg h⟩

/-- What a store can do. -/
theorem State.writeByte_cases (s : State) (a : Word) (v : Byte) :
    (∃ f, s.storeFault a v = some f ∧ s.writeByte a v = .error f) ∨
      (s.storeFault a v = none ∧ ∃ t, s.writeByte a v = .ok t ∧ s.MemoryStep t ∧ s.StoredByte t a v) := by
  unfold State.writeByte
  by_cases h : s.InRom a
  · simp only [(State.inRomWindow_iff a).2 h, if_true, State.storeFault, if_pos h]
    cases hr : s.cfg.romWrite with
    | fault => exact .inl ⟨_, rfl, rfl⟩
    | ignore =>
      exact .inr ⟨rfl, s, rfl, .refl s, rfl, fun _ => rfl, fun x => ⟨fun hx => absurd h hx.1, fun _ => rfl⟩⟩
  · simp only [(State.inRomWindow_eq_false a).2 h, Bool.false_eq_true, if_false]
    exact State.storeByte_cases v h

/-- A store that raises nothing. -/
theorem State.writeByte_ok {a : Word} {v : Byte} (h : s.storeFault a v = none) :
    ∃ t, s.writeByte a v = .ok t ∧ s.StoredByte t a v := by
  rcases State.writeByte_cases s a v with ⟨f, hf, _⟩ | ⟨_, t, ht, _, hs⟩
  · simp [h] at hf
  · exact ⟨t, ht, hs⟩

/-- A store that raises a fault. -/
theorem State.writeByte_error {a : Word} {v : Byte} {f : Fault} (h : s.storeFault a v = some f) :
    s.writeByte a v = .error f := by
  rcases State.writeByte_cases s a v with ⟨g, hg, he⟩ | ⟨hn, _⟩
  · rw [he, ← Option.some.inj (hg.symm.trans h)]
  · simp [h] at hn

/-- A completed store changes memory only, and keeps its form. -/
theorem State.writeByte_memoryStep {a : Word} {v : Byte} (h : s.writeByte a v = .ok t) : s.MemoryStep t := by
  rcases State.writeByte_cases s a v with ⟨_, _, he⟩ | ⟨_, u, hu, hs, _⟩
  · rw [he] at h
    cases h
  · rw [hu] at h
    cases h
    exact hs

/-- A program byte placed in memory changes memory only, and keeps its form. -/
theorem State.placeByte_memoryStep {a : Word} (v : Byte) (ha : ¬s.InRom a) : s.MemoryStep (s.placeByte a v) := by
  unfold State.placeByte
  simp only [(State.inRomWindow_eq_false a).2 ha, Bool.false_eq_true, if_false]
  rcases State.storeByte_cases v ha with ⟨f, _, he⟩ | ⟨_, t, ht, hs, _⟩
  · rw [he]
    exact State.pokeByte_memoryStep a v
  · rw [ht]
    exact hs

/-- The two halves of a word, as numbers. -/
theorem lo_eq (v : Word) : Bits.lo v = byte (v.toNat % 256) := by
  apply BitVec.eq_of_toNat_eq
  simp [Bits.lo, byte]

theorem hi_eq (v : Word) : Bits.hi v = byte (v.toNat / 256) := by
  apply BitVec.eq_of_toNat_eq
  simp [Bits.hi, byte, Nat.shiftRight_eq_div_pow]

theorem join_toNat (h l : Byte) : (Bits.join h l).toNat = 256 * h.toNat + l.toNat := by
  unfold Bits.join
  rw [BitVec.toNat_append, ← Nat.shiftLeft_add_eq_or_of_lt l.isLt, Nat.shiftLeft_eq]
  omega

theorem State.StoredByte.cfg {a : Word} {v : Byte} (h : s.StoredByte t a v) : t.cfg = s.cfg := by
  rw [h.1]

/-- A two-byte store that raises nothing. -/
theorem State.writeShort_ok {a a1 v : Word} (h1 : s.Addr (a.toNat + 1) a1) (h : s.storeFault a (byte (v.toNat % 256)) = none)
    (h' : s.storeFault a1 (byte (v.toNat / 256)) = none) : ∃ t, s.writeShort .little a v = .ok t ∧ s.StoredShort t a a1 v := by
  obtain ⟨m, hm, hs⟩ := State.writeByte_ok h
  obtain ⟨t, ht, hs'⟩ := State.writeByte_ok ((State.storeFault_congr hs.cfg a1 _).trans h')
  have ha : m.addrAdd a 1 = .ok a1 := State.addr16_ok ((State.Addr_congr hs.cfg).2 h1)
  refine ⟨t, ?_, m, hs, hs'⟩
  simp only [State.writeShort, lo_eq, hi_eq, hm, ha, ht, bind, Except.bind]

/-- A two-byte read. -/
theorem State.readShort_ok {a a1 : Word} (h1 : s.Addr (a.toNat + 1) a1) :
    s.readShort .little a = .ok (Bits.join (s.readByte a1) (s.readByte a)) := by
  have ha : s.addrAdd a 1 = .ok a1 := State.addr16_ok h1
  simp [State.readShort, ha, bind, Except.bind]

/-! The stack. -/

/-- A push. -/
theorem State.push16_ok {v sp sp1 : Word} (h0 : s.Addr (s.sp.toNat - 2) sp) (h1 : s.Addr (sp.toNat + 1) sp1)
    (h : s.storeFault sp (byte (v.toNat % 256)) = none) (h' : s.storeFault sp1 (byte (v.toNat / 256)) = none) :
    ∃ t, s.push16 v = .ok t ∧ State.StoredShort { s with sp := sp } t sp sp1 v := by
  obtain ⟨t, ht, hs⟩ := State.writeShort_ok (s := { s with sp := sp }) (v := v) h1 h h'
  have ha : s.addrAdd s.sp (-2) = .ok sp := State.addr16_ok h0
  exact ⟨t, by simp [State.push16, ha, ht, bind, Except.bind], hs⟩

/-- A pop. -/
theorem State.pop16_ok {sp1 sp2 : Word} (h1 : s.Addr (s.sp.toNat + 1) sp1) (h2 : s.Addr (s.sp.toNat + 2) sp2) :
    s.pop16 = .ok (Bits.join (s.readByte sp1) (s.readByte s.sp), { s with sp := sp2 }) := by
  have ha : s.addrAdd s.sp 2 = .ok sp2 := State.addr16_ok h2
  simp [State.pop16, State.readShort_ok h1, ha, bind, Except.bind]

/-! Completion. -/

/-- What an instruction that is not PC-mutating can do. -/
theorem State.retire_cases (s : State) (len : Nat) (r : Except Fault State) :
    (∃ t w, r = .ok t ∧ s.Next len w ∧ s.retire len r = .next { t with pc := w }) ∨
      ∃ f, s.retire len r = .next (s.takeFault f) := by
  unfold State.retire State.complete
  cases r with
  | error f => exact .inr ⟨f, rfl⟩
  | ok t =>
    rcases State.addr16_cases s ((s.pc.toNat : Int) + len) with ⟨w, hw, he⟩ | ⟨_, he⟩
    · exact .inl ⟨t, w, rfl, hw, by simp [State.addrAdd, he, bind, Except.bind]⟩
    · exact .inr ⟨_, by simp only [State.addrAdd, he, bind, Except.bind]; rfl⟩

/-- The completion of an instruction that is not PC-mutating. -/
theorem State.retire_ok {len : Nat} {w : Word} (h : s.Next len w) (t : State) :
    s.retire len (.ok t) = .next { t with pc := w } := by
  simp [State.retire, State.complete, State.addrAdd_next h, bind, Except.bind]

/-- An instruction whose handler raises a fault. -/
theorem State.retire_error (len : Nat) (f : Fault) : s.retire len (.error f) = .next (s.takeFault f) := rfl

/-- The reset memory is canonical. -/
theorem State.reset_canonical : State.reset.MemoryCanonical := ⟨rfl, rfl⟩

/-- What reset leaves in a byte that IO_DEFAULTS does not name. -/
theorem memDefault_unnamed {p : Params} {a : Nat} (h : ∀ entry ∈ p.ioDefaults, entry.1 ≠ a) : memDefault p a = 0 := by
  unfold memDefault
  suffices ∀ (l : List (Nat × Byte)) (v : Byte), (∀ entry ∈ l, entry.1 ≠ a) →
      l.foldl (fun v entry => if entry.1 = a then entry.2 else v) v = v from this _ _ h
  intro l
  induction l with
  | nil => exact fun v _ => rfl
  | cons e l ih =>
    intro v hl
    rw [List.foldl_cons, if_neg (hl e List.mem_cons_self)]
    exact ih v fun x hx => hl x (List.mem_cons_of_mem _ hx)

/-- After reset every byte of memory below the I/O registers reads as zero, whatever the registers hold. -/
theorem State.readByte_reset_below (x : Word) (h : x.toNat < 0xFF00) : State.reset.readByte x = 0 := by
  unfold State.readByte
  split
  · rfl
  · refine memDefault_unnamed fun entry he hx => ?_
    have hall : ∀ entry ∈ Params.defaults.ioDefaults, 0xFF00 ≤ entry.1 := by decide
    have := hall entry he
    omega

/-! The host. -/

/-- What `load_cartridge` can do: refuse the image with a reason, or record it and the bank mode of its type byte. -/
theorem State.loadCartridge_cases (s : State) (image : List Byte) :
    (∃ r, s.loadCartridge image = .refused (.cartridgeFormat r)) ∨
    ∃ mode, 0x8000 ≤ image.length ∧ Config.cartTypes (image.getD 0x0147 0) = some mode ∧
      s.loadCartridge image = .next { s with rom := romOfBytes 0 image, bankMode := some mode, launch := .loaded } := by
  unfold State.loadCartridge
  split
  · exact .inl ⟨_, rfl⟩
  · rename_i hlen
    split
    · exact .inl ⟨_, rfl⟩
    · rename_i mode hmode
      exact .inr ⟨mode, Nat.not_lt.1 hlen, hmode, rfl⟩

/-- A load after the first reset has no move; before it, it is `load_cartridge`. -/
theorem hostLoad_eq (image : List Byte) (s : State) :
    hostLoad image s = if s.launch = .reset then .refused .loadAfterReset else s.loadCartridge image := by
  unfold hostLoad
  split <;> simp [*]

/-- The host's reset: a faulted run is over, a machine without a cartridge has no reset, any other is reset. -/
theorem hostReset_cases (s : State) :
    (∃ f, s.fault = some f ∧ hostReset s = .fault f) ∨
    (s.fault = none ∧ s.launch = .unloaded ∧ hostReset s = .refused .resetBeforeLoad) ∨
    (s.fault = none ∧ s.launch ≠ .unloaded ∧ hostReset s = .next s.powerOn) := by
  unfold hostReset
  split <;> simp [*]

@[simp] theorem State.powerOn_launch (s : State) : s.powerOn.launch = .reset := rfl

@[simp] theorem State.beforeLoad_launch (cfg : Config) : (State.beforeLoad cfg).launch = .unloaded := rfl

end Sys2Proof.Machine
end

