-- ==== Sys2Proof/Laws/PerInstr.lean ====
section
/-! SUPPORT. Statements about every instruction as syntax, one lemma per constructor. -/

namespace Sys2Proof.Laws

/-- Family EncodedLength: a well-formed instruction's encoding is as long as the decoder finds from its first byte alone
(30_encoding.md R100, R114). -/
def EncodedLength.Statement (i : Instr) : Prop :=
  i.wellFormed = true → ((encode i).head?.map lengthOf) = some (encode i).length

/-- The eleven unassigned opcodes are one byte long (30_encoding.md R111). -/
theorem lengthOf_illegal : ∀ op ∈ illegalOpcodes, lengthOf op = 1 := by decide

theorem EncodedLength.nop : EncodedLength.Statement .nop := fun _ => rfl
theorem EncodedLength.ldBcNn (nn : Word) : EncodedLength.Statement (.ldBcNn nn) := fun _ => rfl
theorem EncodedLength.ldMemBcA : EncodedLength.Statement .ldMemBcA := fun _ => rfl
theorem EncodedLength.incBc : EncodedLength.Statement .incBc := fun _ => rfl
theorem EncodedLength.incB : EncodedLength.Statement .incB := fun _ => rfl
theorem EncodedLength.decB : EncodedLength.Statement .decB := fun _ => rfl
theorem EncodedLength.ldBN (n : Byte) : EncodedLength.Statement (.ldBN n) := fun _ => rfl
theorem EncodedLength.rlca : EncodedLength.Statement .rlca := fun _ => rfl
theorem EncodedLength.ldMemNnSp (nn : Word) : EncodedLength.Statement (.ldMemNnSp nn) := fun _ => rfl
theorem EncodedLength.addHlBc : EncodedLength.Statement .addHlBc := fun _ => rfl
theorem EncodedLength.ldAMemBc : EncodedLength.Statement .ldAMemBc := fun _ => rfl
theorem EncodedLength.decBc : EncodedLength.Statement .decBc := fun _ => rfl
theorem EncodedLength.incC : EncodedLength.Statement .incC := fun _ => rfl
theorem EncodedLength.decC : EncodedLength.Statement .decC := fun _ => rfl
theorem EncodedLength.ldCN (n : Byte) : EncodedLength.Statement (.ldCN n) := fun _ => rfl
theorem EncodedLength.rrca : EncodedLength.Statement .rrca := fun _ => rfl
theorem EncodedLength.stop (n : Byte) : EncodedLength.Statement (.stop n) := fun _ => rfl
theorem EncodedLength.ldDeNn (nn : Word) : EncodedLength.Statement (.ldDeNn nn) := fun _ => rfl
theorem EncodedLength.ldMemDeA : EncodedLength.Statement .ldMemDeA := fun _ => rfl
theorem EncodedLength.incDe : EncodedLength.Statement .incDe := fun _ => rfl
theorem EncodedLength.incD : EncodedLength.Statement .incD := fun _ => rfl
theorem EncodedLength.decD : EncodedLength.Statement .decD := fun _ => rfl
theorem EncodedLength.ldDN (n : Byte) : EncodedLength.Statement (.ldDN n) := fun _ => rfl
theorem EncodedLength.rla : EncodedLength.Statement .rla := fun _ => rfl
theorem EncodedLength.jrE (e : Byte) : EncodedLength.Statement (.jrE e) := fun _ => rfl
theorem EncodedLength.addHlDe : EncodedLength.Statement .addHlDe := fun _ => rfl
theorem EncodedLength.ldAMemDe : EncodedLength.Statement .ldAMemDe := fun _ => rfl
theorem EncodedLength.decDe : EncodedLength.Statement .decDe := fun _ => rfl
theorem EncodedLength.incE : EncodedLength.Statement .incE := fun _ => rfl
theorem EncodedLength.decE : EncodedLength.Statement .decE := fun _ => rfl
theorem EncodedLength.ldEN (n : Byte) : EncodedLength.Statement (.ldEN n) := fun _ => rfl
theorem EncodedLength.rra : EncodedLength.Statement .rra := fun _ => rfl
theorem EncodedLength.jrNzE (e : Byte) : EncodedLength.Statement (.jrNzE e) := fun _ => rfl
theorem EncodedLength.ldHlNn (nn : Word) : EncodedLength.Statement (.ldHlNn nn) := fun _ => rfl
theorem EncodedLength.ldMemHlIncA : EncodedLength.Statement .ldMemHlIncA := fun _ => rfl
theorem EncodedLength.incHl : EncodedLength.Statement .incHl := fun _ => rfl
theorem EncodedLength.incH : EncodedLength.Statement .incH := fun _ => rfl
theorem EncodedLength.decH : EncodedLength.Statement .decH := fun _ => rfl
theorem EncodedLength.ldHN (n : Byte) : EncodedLength.Statement (.ldHN n) := fun _ => rfl
theorem EncodedLength.daa : EncodedLength.Statement .daa := fun _ => rfl
theorem EncodedLength.jrZE (e : Byte) : EncodedLength.Statement (.jrZE e) := fun _ => rfl
theorem EncodedLength.addHlHl : EncodedLength.Statement .addHlHl := fun _ => rfl
theorem EncodedLength.ldAMemHlInc : EncodedLength.Statement .ldAMemHlInc := fun _ => rfl
theorem EncodedLength.decHl : EncodedLength.Statement .decHl := fun _ => rfl
theorem EncodedLength.incL : EncodedLength.Statement .incL := fun _ => rfl
theorem EncodedLength.decL : EncodedLength.Statement .decL := fun _ => rfl
theorem EncodedLength.ldLN (n : Byte) : EncodedLength.Statement (.ldLN n) := fun _ => rfl
theorem EncodedLength.cpl : EncodedLength.Statement .cpl := fun _ => rfl
theorem EncodedLength.jrNcE (e : Byte) : EncodedLength.Statement (.jrNcE e) := fun _ => rfl
theorem EncodedLength.ldSpNn (nn : Word) : EncodedLength.Statement (.ldSpNn nn) := fun _ => rfl
theorem EncodedLength.ldMemHlDecA : EncodedLength.Statement .ldMemHlDecA := fun _ => rfl
theorem EncodedLength.incSp : EncodedLength.Statement .incSp := fun _ => rfl
theorem EncodedLength.incMemHl : EncodedLength.Statement .incMemHl := fun _ => rfl
theorem EncodedLength.decMemHl : EncodedLength.Statement .decMemHl := fun _ => rfl
theorem EncodedLength.ldMemHlN (n : Byte) : EncodedLength.Statement (.ldMemHlN n) := fun _ => rfl
theorem EncodedLength.scf : EncodedLength.Statement .scf := fun _ => rfl
theorem EncodedLength.jrCE (e : Byte) : EncodedLength.Statement (.jrCE e) := fun _ => rfl
theorem EncodedLength.addHlSp : EncodedLength.Statement .addHlSp := fun _ => rfl
theorem EncodedLength.ldAMemHlDec : EncodedLength.Statement .ldAMemHlDec := fun _ => rfl
theorem EncodedLength.decSp : EncodedLength.Statement .decSp := fun _ => rfl
theorem EncodedLength.incA : EncodedLength.Statement .incA := fun _ => rfl
theorem EncodedLength.decA : EncodedLength.Statement .decA := fun _ => rfl
theorem EncodedLength.ldAN (n : Byte) : EncodedLength.Statement (.ldAN n) := fun _ => rfl
theorem EncodedLength.ccf : EncodedLength.Statement .ccf := fun _ => rfl
theorem EncodedLength.ldBB : EncodedLength.Statement .ldBB := fun _ => rfl
theorem EncodedLength.ldBC : EncodedLength.Statement .ldBC := fun _ => rfl
theorem EncodedLength.ldBD : EncodedLength.Statement .ldBD := fun _ => rfl
theorem EncodedLength.ldBE : EncodedLength.Statement .ldBE := fun _ => rfl
theorem EncodedLength.ldBH : EncodedLength.Statement .ldBH := fun _ => rfl
theorem EncodedLength.ldBL : EncodedLength.Statement .ldBL := fun _ => rfl
theorem EncodedLength.ldBMemHl : EncodedLength.Statement .ldBMemHl := fun _ => rfl
theorem EncodedLength.ldBA : EncodedLength.Statement .ldBA := fun _ => rfl
theorem EncodedLength.ldCB : EncodedLength.Statement .ldCB := fun _ => rfl
theorem EncodedLength.ldCC : EncodedLength.Statement .ldCC := fun _ => rfl
theorem EncodedLength.ldCD : EncodedLength.Statement .ldCD := fun _ => rfl
theorem EncodedLength.ldCE : EncodedLength.Statement .ldCE := fun _ => rfl
theorem EncodedLength.ldCH : EncodedLength.Statement .ldCH := fun _ => rfl
theorem EncodedLength.ldCL : EncodedLength.Statement .ldCL := fun _ => rfl
theorem EncodedLength.ldCMemHl : EncodedLength.Statement .ldCMemHl := fun _ => rfl
theorem EncodedLength.ldCA : EncodedLength.Statement .ldCA := fun _ => rfl
theorem EncodedLength.ldDB : EncodedLength.Statement .ldDB := fun _ => rfl
theorem EncodedLength.ldDC : EncodedLength.Statement .ldDC := fun _ => rfl
theorem EncodedLength.ldDD : EncodedLength.Statement .ldDD := fun _ => rfl
theorem EncodedLength.ldDE : EncodedLength.Statement .ldDE := fun _ => rfl
theorem EncodedLength.ldDH : EncodedLength.Statement .ldDH := fun _ => rfl
theorem EncodedLength.ldDL : EncodedLength.Statement .ldDL := fun _ => rfl
theorem EncodedLength.ldDMemHl : EncodedLength.Statement .ldDMemHl := fun _ => rfl
theorem EncodedLength.ldDA : EncodedLength.Statement .ldDA := fun _ => rfl
theorem EncodedLength.ldEB : EncodedLength.Statement .ldEB := fun _ => rfl
theorem EncodedLength.ldEC : EncodedLength.Statement .ldEC := fun _ => rfl
theorem EncodedLength.ldED : EncodedLength.Statement .ldED := fun _ => rfl
theorem EncodedLength.ldEE : EncodedLength.Statement .ldEE := fun _ => rfl
theorem EncodedLength.ldEH : EncodedLength.Statement .ldEH := fun _ => rfl
theorem EncodedLength.ldEL : EncodedLength.Statement .ldEL := fun _ => rfl
theorem EncodedLength.ldEMemHl : EncodedLength.Statement .ldEMemHl := fun _ => rfl
theorem EncodedLength.ldEA : EncodedLength.Statement .ldEA := fun _ => rfl
theorem EncodedLength.ldHB : EncodedLength.Statement .ldHB := fun _ => rfl
theorem EncodedLength.ldHC : EncodedLength.Statement .ldHC := fun _ => rfl
theorem EncodedLength.ldHD : EncodedLength.Statement .ldHD := fun _ => rfl
theorem EncodedLength.ldHE : EncodedLength.Statement .ldHE := fun _ => rfl
theorem EncodedLength.ldHH : EncodedLength.Statement .ldHH := fun _ => rfl
theorem EncodedLength.ldHL : EncodedLength.Statement .ldHL := fun _ => rfl
theorem EncodedLength.ldHMemHl : EncodedLength.Statement .ldHMemHl := fun _ => rfl
theorem EncodedLength.ldHA : EncodedLength.Statement .ldHA := fun _ => rfl
theorem EncodedLength.ldLB : EncodedLength.Statement .ldLB := fun _ => rfl
theorem EncodedLength.ldLC : EncodedLength.Statement .ldLC := fun _ => rfl
theorem EncodedLength.ldLD : EncodedLength.Statement .ldLD := fun _ => rfl
theorem EncodedLength.ldLE : EncodedLength.Statement .ldLE := fun _ => rfl
theorem EncodedLength.ldLH : EncodedLength.Statement .ldLH := fun _ => rfl
theorem EncodedLength.ldLL : EncodedLength.Statement .ldLL := fun _ => rfl
theorem EncodedLength.ldLMemHl : EncodedLength.Statement .ldLMemHl := fun _ => rfl
theorem EncodedLength.ldLA : EncodedLength.Statement .ldLA := fun _ => rfl
theorem EncodedLength.ldMemHlB : EncodedLength.Statement .ldMemHlB := fun _ => rfl
theorem EncodedLength.ldMemHlC : EncodedLength.Statement .ldMemHlC := fun _ => rfl
theorem EncodedLength.ldMemHlD : EncodedLength.Statement .ldMemHlD := fun _ => rfl
theorem EncodedLength.ldMemHlE : EncodedLength.Statement .ldMemHlE := fun _ => rfl
theorem EncodedLength.ldMemHlH : EncodedLength.Statement .ldMemHlH := fun _ => rfl
theorem EncodedLength.ldMemHlL : EncodedLength.Statement .ldMemHlL := fun _ => rfl
theorem EncodedLength.halt : EncodedLength.Statement .halt := fun _ => rfl
theorem EncodedLength.ldMemHlA : EncodedLength.Statement .ldMemHlA := fun _ => rfl
theorem EncodedLength.ldAB : EncodedLength.Statement .ldAB := fun _ => rfl
theorem EncodedLength.ldAC : EncodedLength.Statement .ldAC := fun _ => rfl
theorem EncodedLength.ldAD : EncodedLength.Statement .ldAD := fun _ => rfl
theorem EncodedLength.ldAE : EncodedLength.Statement .ldAE := fun _ => rfl
theorem EncodedLength.ldAH : EncodedLength.Statement .ldAH := fun _ => rfl
theorem EncodedLength.ldAL : EncodedLength.Statement .ldAL := fun _ => rfl
theorem EncodedLength.ldAMemHl : EncodedLength.Statement .ldAMemHl := fun _ => rfl
theorem EncodedLength.ldAA : EncodedLength.Statement .ldAA := fun _ => rfl
theorem EncodedLength.addAB : EncodedLength.Statement .addAB := fun _ => rfl
theorem EncodedLength.addAC : EncodedLength.Statement .addAC := fun _ => rfl
theorem EncodedLength.addAD : EncodedLength.Statement .addAD := fun _ => rfl
theorem EncodedLength.addAE : EncodedLength.Statement .addAE := fun _ => rfl
theorem EncodedLength.addAH : EncodedLength.Statement .addAH := fun _ => rfl
theorem EncodedLength.addAL : EncodedLength.Statement .addAL := fun _ => rfl
theorem EncodedLength.addAMemHl : EncodedLength.Statement .addAMemHl := fun _ => rfl
theorem EncodedLength.addAA : EncodedLength.Statement .addAA := fun _ => rfl
theorem EncodedLength.adcAB : EncodedLength.Statement .adcAB := fun _ => rfl
theorem EncodedLength.adcAC : EncodedLength.Statement .adcAC := fun _ => rfl
theorem EncodedLength.adcAD : EncodedLength.Statement .adcAD := fun _ => rfl
theorem EncodedLength.adcAE : EncodedLength.Statement .adcAE := fun _ => rfl
theorem EncodedLength.adcAH : EncodedLength.Statement .adcAH := fun _ => rfl
theorem EncodedLength.adcAL : EncodedLength.Statement .adcAL := fun _ => rfl
theorem EncodedLength.adcAMemHl : EncodedLength.Statement .adcAMemHl := fun _ => rfl
theorem EncodedLength.adcAA : EncodedLength.Statement .adcAA := fun _ => rfl
theorem EncodedLength.subB : EncodedLength.Statement .subB := fun _ => rfl
theorem EncodedLength.subC : EncodedLength.Statement .subC := fun _ => rfl
theorem EncodedLength.subD : EncodedLength.Statement .subD := fun _ => rfl
theorem EncodedLength.subE : EncodedLength.Statement .subE := fun _ => rfl
theorem EncodedLength.subH : EncodedLength.Statement .subH := fun _ => rfl
theorem EncodedLength.subL : EncodedLength.Statement .subL := fun _ => rfl
theorem EncodedLength.subMemHl : EncodedLength.Statement .subMemHl := fun _ => rfl
theorem EncodedLength.subA : EncodedLength.Statement .subA := fun _ => rfl
theorem EncodedLength.sbcAB : EncodedLength.Statement .sbcAB := fun _ => rfl
theorem EncodedLength.sbcAC : EncodedLength.Statement .sbcAC := fun _ => rfl
theorem EncodedLength.sbcAD : EncodedLength.Statement .sbcAD := fun _ => rfl
theorem EncodedLength.sbcAE : EncodedLength.Statement .sbcAE := fun _ => rfl
theorem EncodedLength.sbcAH : EncodedLength.Statement .sbcAH := fun _ => rfl
theorem EncodedLength.sbcAL : EncodedLength.Statement .sbcAL := fun _ => rfl
theorem EncodedLength.sbcAMemHl : EncodedLength.Statement .sbcAMemHl := fun _ => rfl
theorem EncodedLength.sbcAA : EncodedLength.Statement .sbcAA := fun _ => rfl
theorem EncodedLength.andB : EncodedLength.Statement .andB := fun _ => rfl
theorem EncodedLength.andC : EncodedLength.Statement .andC := fun _ => rfl
theorem EncodedLength.andD : EncodedLength.Statement .andD := fun _ => rfl
theorem EncodedLength.andE : EncodedLength.Statement .andE := fun _ => rfl
theorem EncodedLength.andH : EncodedLength.Statement .andH := fun _ => rfl
theorem EncodedLength.andL : EncodedLength.Statement .andL := fun _ => rfl
theorem EncodedLength.andMemHl : EncodedLength.Statement .andMemHl := fun _ => rfl
theorem EncodedLength.andA : EncodedLength.Statement .andA := fun _ => rfl
theorem EncodedLength.xorB : EncodedLength.Statement .xorB := fun _ => rfl
theorem EncodedLength.xorC : EncodedLength.Statement .xorC := fun _ => rfl
theorem EncodedLength.xorD : EncodedLength.Statement .xorD := fun _ => rfl
theorem EncodedLength.xorE : EncodedLength.Statement .xorE := fun _ => rfl
theorem EncodedLength.xorH : EncodedLength.Statement .xorH := fun _ => rfl
theorem EncodedLength.xorL : EncodedLength.Statement .xorL := fun _ => rfl
theorem EncodedLength.xorMemHl : EncodedLength.Statement .xorMemHl := fun _ => rfl
theorem EncodedLength.xorA : EncodedLength.Statement .xorA := fun _ => rfl
theorem EncodedLength.orB : EncodedLength.Statement .orB := fun _ => rfl
theorem EncodedLength.orC : EncodedLength.Statement .orC := fun _ => rfl
theorem EncodedLength.orD : EncodedLength.Statement .orD := fun _ => rfl
theorem EncodedLength.orE : EncodedLength.Statement .orE := fun _ => rfl
theorem EncodedLength.orH : EncodedLength.Statement .orH := fun _ => rfl
theorem EncodedLength.orL : EncodedLength.Statement .orL := fun _ => rfl
theorem EncodedLength.orMemHl : EncodedLength.Statement .orMemHl := fun _ => rfl
theorem EncodedLength.orA : EncodedLength.Statement .orA := fun _ => rfl
theorem EncodedLength.cpB : EncodedLength.Statement .cpB := fun _ => rfl
theorem EncodedLength.cpC : EncodedLength.Statement .cpC := fun _ => rfl
theorem EncodedLength.cpD : EncodedLength.Statement .cpD := fun _ => rfl
theorem EncodedLength.cpE : EncodedLength.Statement .cpE := fun _ => rfl
theorem EncodedLength.cpH : EncodedLength.Statement .cpH := fun _ => rfl
theorem EncodedLength.cpL : EncodedLength.Statement .cpL := fun _ => rfl
theorem EncodedLength.cpMemHl : EncodedLength.Statement .cpMemHl := fun _ => rfl
theorem EncodedLength.cpA : EncodedLength.Statement .cpA := fun _ => rfl
theorem EncodedLength.retNz : EncodedLength.Statement .retNz := fun _ => rfl
theorem EncodedLength.popBc : EncodedLength.Statement .popBc := fun _ => rfl
theorem EncodedLength.jpNzNn (nn : Word) : EncodedLength.Statement (.jpNzNn nn) := fun _ => rfl
theorem EncodedLength.jpNn (nn : Word) : EncodedLength.Statement (.jpNn nn) := fun _ => rfl
theorem EncodedLength.callNzNn (nn : Word) : EncodedLength.Statement (.callNzNn nn) := fun _ => rfl
theorem EncodedLength.pushBc : EncodedLength.Statement .pushBc := fun _ => rfl
theorem EncodedLength.addAN (n : Byte) : EncodedLength.Statement (.addAN n) := fun _ => rfl
theorem EncodedLength.rst00 : EncodedLength.Statement .rst00 := fun _ => rfl
theorem EncodedLength.retZ : EncodedLength.Statement .retZ := fun _ => rfl
theorem EncodedLength.ret : EncodedLength.Statement .ret := fun _ => rfl
theorem EncodedLength.jpZNn (nn : Word) : EncodedLength.Statement (.jpZNn nn) := fun _ => rfl
theorem EncodedLength.prefixCb (sub : Byte) : EncodedLength.Statement (.prefixCb sub) := fun _ => rfl
theorem EncodedLength.callZNn (nn : Word) : EncodedLength.Statement (.callZNn nn) := fun _ => rfl
theorem EncodedLength.callNn (nn : Word) : EncodedLength.Statement (.callNn nn) := fun _ => rfl
theorem EncodedLength.adcAN (n : Byte) : EncodedLength.Statement (.adcAN n) := fun _ => rfl
theorem EncodedLength.rst08 : EncodedLength.Statement .rst08 := fun _ => rfl
theorem EncodedLength.retNc : EncodedLength.Statement .retNc := fun _ => rfl
theorem EncodedLength.popDe : EncodedLength.Statement .popDe := fun _ => rfl
theorem EncodedLength.jpNcNn (nn : Word) : EncodedLength.Statement (.jpNcNn nn) := fun _ => rfl
theorem EncodedLength.illegal (op : Byte) : EncodedLength.Statement (.illegal op) := fun h =>
  congrArg some (lengthOf_illegal op (by simpa [Instr.wellFormed] using h))
theorem EncodedLength.callNcNn (nn : Word) : EncodedLength.Statement (.callNcNn nn) := fun _ => rfl
theorem EncodedLength.pushDe : EncodedLength.Statement .pushDe := fun _ => rfl
theorem EncodedLength.subN (n : Byte) : EncodedLength.Statement (.subN n) := fun _ => rfl
theorem EncodedLength.rst10 : EncodedLength.Statement .rst10 := fun _ => rfl
theorem EncodedLength.retC : EncodedLength.Statement .retC := fun _ => rfl
theorem EncodedLength.reti : EncodedLength.Statement .reti := fun _ => rfl
theorem EncodedLength.jpCNn (nn : Word) : EncodedLength.Statement (.jpCNn nn) := fun _ => rfl
theorem EncodedLength.callCNn (nn : Word) : EncodedLength.Statement (.callCNn nn) := fun _ => rfl
theorem EncodedLength.sbcAN (n : Byte) : EncodedLength.Statement (.sbcAN n) := fun _ => rfl
theorem EncodedLength.rst18 : EncodedLength.Statement .rst18 := fun _ => rfl
theorem EncodedLength.ldhMemNA (n : Byte) : EncodedLength.Statement (.ldhMemNA n) := fun _ => rfl
theorem EncodedLength.popHl : EncodedLength.Statement .popHl := fun _ => rfl
theorem EncodedLength.ldMemCA : EncodedLength.Statement .ldMemCA := fun _ => rfl
theorem EncodedLength.pushHl : EncodedLength.Statement .pushHl := fun _ => rfl
theorem EncodedLength.andN (n : Byte) : EncodedLength.Statement (.andN n) := fun _ => rfl
theorem EncodedLength.rst20 : EncodedLength.Statement .rst20 := fun _ => rfl
theorem EncodedLength.addSpE (e : Byte) : EncodedLength.Statement (.addSpE e) := fun _ => rfl
theorem EncodedLength.jpHl : EncodedLength.Statement .jpHl := fun _ => rfl
theorem EncodedLength.ldMemNnA (nn : Word) : EncodedLength.Statement (.ldMemNnA nn) := fun _ => rfl
theorem EncodedLength.xorN (n : Byte) : EncodedLength.Statement (.xorN n) := fun _ => rfl
theorem EncodedLength.rst28 : EncodedLength.Statement .rst28 := fun _ => rfl
theorem EncodedLength.ldhAMemN (n : Byte) : EncodedLength.Statement (.ldhAMemN n) := fun _ => rfl
theorem EncodedLength.popAf : EncodedLength.Statement .popAf := fun _ => rfl
theorem EncodedLength.ldAMemC : EncodedLength.Statement .ldAMemC := fun _ => rfl
theorem EncodedLength.di : EncodedLength.Statement .di := fun _ => rfl
theorem EncodedLength.pushAf : EncodedLength.Statement .pushAf := fun _ => rfl
theorem EncodedLength.orN (n : Byte) : EncodedLength.Statement (.orN n) := fun _ => rfl
theorem EncodedLength.rst30 : EncodedLength.Statement .rst30 := fun _ => rfl
theorem EncodedLength.ldHlSpE (e : Byte) : EncodedLength.Statement (.ldHlSpE e) := fun _ => rfl
theorem EncodedLength.ldSpHl : EncodedLength.Statement .ldSpHl := fun _ => rfl
theorem EncodedLength.ldAMemNn (nn : Word) : EncodedLength.Statement (.ldAMemNn nn) := fun _ => rfl
theorem EncodedLength.ei : EncodedLength.Statement .ei := fun _ => rfl
theorem EncodedLength.cpN (n : Byte) : EncodedLength.Statement (.cpN n) := fun _ => rfl
theorem EncodedLength.rst38 : EncodedLength.Statement .rst38 := fun _ => rfl
theorem EncodedLength.rlcB : EncodedLength.Statement .rlcB := fun _ => rfl
theorem EncodedLength.rlcC : EncodedLength.Statement .rlcC := fun _ => rfl
theorem EncodedLength.rlcD : EncodedLength.Statement .rlcD := fun _ => rfl
theorem EncodedLength.rlcE : EncodedLength.Statement .rlcE := fun _ => rfl
theorem EncodedLength.rlcH : EncodedLength.Statement .rlcH := fun _ => rfl
theorem EncodedLength.rlcL : EncodedLength.Statement .rlcL := fun _ => rfl
theorem EncodedLength.rlcMemHl : EncodedLength.Statement .rlcMemHl := fun _ => rfl
theorem EncodedLength.rlcA : EncodedLength.Statement .rlcA := fun _ => rfl
theorem EncodedLength.rrcB : EncodedLength.Statement .rrcB := fun _ => rfl
theorem EncodedLength.rrcC : EncodedLength.Statement .rrcC := fun _ => rfl
theorem EncodedLength.rrcD : EncodedLength.Statement .rrcD := fun _ => rfl
theorem EncodedLength.rrcE : EncodedLength.Statement .rrcE := fun _ => rfl
theorem EncodedLength.rrcH : EncodedLength.Statement .rrcH := fun _ => rfl
theorem EncodedLength.rrcL : EncodedLength.Statement .rrcL := fun _ => rfl
theorem EncodedLength.rrcMemHl : EncodedLength.Statement .rrcMemHl := fun _ => rfl
theorem EncodedLength.rrcA : EncodedLength.Statement .rrcA := fun _ => rfl
theorem EncodedLength.rlB : EncodedLength.Statement .rlB := fun _ => rfl
theorem EncodedLength.rlC : EncodedLength.Statement .rlC := fun _ => rfl
theorem EncodedLength.rlD : EncodedLength.Statement .rlD := fun _ => rfl
theorem EncodedLength.rlE : EncodedLength.Statement .rlE := fun _ => rfl
theorem EncodedLength.rlH : EncodedLength.Statement .rlH := fun _ => rfl
theorem EncodedLength.rlL : EncodedLength.Statement .rlL := fun _ => rfl
theorem EncodedLength.rlMemHl : EncodedLength.Statement .rlMemHl := fun _ => rfl
theorem EncodedLength.rlA : EncodedLength.Statement .rlA := fun _ => rfl
theorem EncodedLength.rrB : EncodedLength.Statement .rrB := fun _ => rfl
theorem EncodedLength.rrC : EncodedLength.Statement .rrC := fun _ => rfl
theorem EncodedLength.rrD : EncodedLength.Statement .rrD := fun _ => rfl
theorem EncodedLength.rrE : EncodedLength.Statement .rrE := fun _ => rfl
theorem EncodedLength.rrH : EncodedLength.Statement .rrH := fun _ => rfl
theorem EncodedLength.rrL : EncodedLength.Statement .rrL := fun _ => rfl
theorem EncodedLength.rrMemHl : EncodedLength.Statement .rrMemHl := fun _ => rfl
theorem EncodedLength.rrA : EncodedLength.Statement .rrA := fun _ => rfl
theorem EncodedLength.slaB : EncodedLength.Statement .slaB := fun _ => rfl
theorem EncodedLength.slaC : EncodedLength.Statement .slaC := fun _ => rfl
theorem EncodedLength.slaD : EncodedLength.Statement .slaD := fun _ => rfl
theorem EncodedLength.slaE : EncodedLength.Statement .slaE := fun _ => rfl
theorem EncodedLength.slaH : EncodedLength.Statement .slaH := fun _ => rfl
theorem EncodedLength.slaL : EncodedLength.Statement .slaL := fun _ => rfl
theorem EncodedLength.slaMemHl : EncodedLength.Statement .slaMemHl := fun _ => rfl
theorem EncodedLength.slaA : EncodedLength.Statement .slaA := fun _ => rfl
theorem EncodedLength.sraB : EncodedLength.Statement .sraB := fun _ => rfl
theorem EncodedLength.sraC : EncodedLength.Statement .sraC := fun _ => rfl
theorem EncodedLength.sraD : EncodedLength.Statement .sraD := fun _ => rfl
theorem EncodedLength.sraE : EncodedLength.Statement .sraE := fun _ => rfl
theorem EncodedLength.sraH : EncodedLength.Statement .sraH := fun _ => rfl
theorem EncodedLength.sraL : EncodedLength.Statement .sraL := fun _ => rfl
theorem EncodedLength.sraMemHl : EncodedLength.Statement .sraMemHl := fun _ => rfl
theorem EncodedLength.sraA : EncodedLength.Statement .sraA := fun _ => rfl
theorem EncodedLength.swapB : EncodedLength.Statement .swapB := fun _ => rfl
theorem EncodedLength.swapC : EncodedLength.Statement .swapC := fun _ => rfl
theorem EncodedLength.swapD : EncodedLength.Statement .swapD := fun _ => rfl
theorem EncodedLength.swapE : EncodedLength.Statement .swapE := fun _ => rfl
theorem EncodedLength.swapH : EncodedLength.Statement .swapH := fun _ => rfl
theorem EncodedLength.swapL : EncodedLength.Statement .swapL := fun _ => rfl
theorem EncodedLength.swapMemHl : EncodedLength.Statement .swapMemHl := fun _ => rfl
theorem EncodedLength.swapA : EncodedLength.Statement .swapA := fun _ => rfl
theorem EncodedLength.srlB : EncodedLength.Statement .srlB := fun _ => rfl
theorem EncodedLength.srlC : EncodedLength.Statement .srlC := fun _ => rfl
theorem EncodedLength.srlD : EncodedLength.Statement .srlD := fun _ => rfl
theorem EncodedLength.srlE : EncodedLength.Statement .srlE := fun _ => rfl
theorem EncodedLength.srlH : EncodedLength.Statement .srlH := fun _ => rfl
theorem EncodedLength.srlL : EncodedLength.Statement .srlL := fun _ => rfl
theorem EncodedLength.srlMemHl : EncodedLength.Statement .srlMemHl := fun _ => rfl
theorem EncodedLength.srlA : EncodedLength.Statement .srlA := fun _ => rfl
theorem EncodedLength.bit0B : EncodedLength.Statement .bit0B := fun _ => rfl
theorem EncodedLength.bit0C : EncodedLength.Statement .bit0C := fun _ => rfl
theorem EncodedLength.bit0D : EncodedLength.Statement .bit0D := fun _ => rfl
theorem EncodedLength.bit0E : EncodedLength.Statement .bit0E := fun _ => rfl
theorem EncodedLength.bit0H : EncodedLength.Statement .bit0H := fun _ => rfl
theorem EncodedLength.bit0L : EncodedLength.Statement .bit0L := fun _ => rfl
theorem EncodedLength.bit0MemHl : EncodedLength.Statement .bit0MemHl := fun _ => rfl
theorem EncodedLength.bit0A : EncodedLength.Statement .bit0A := fun _ => rfl
theorem EncodedLength.bit1B : EncodedLength.Statement .bit1B := fun _ => rfl
theorem EncodedLength.bit1C : EncodedLength.Statement .bit1C := fun _ => rfl
theorem EncodedLength.bit1D : EncodedLength.Statement .bit1D := fun _ => rfl
theorem EncodedLength.bit1E : EncodedLength.Statement .bit1E := fun _ => rfl
theorem EncodedLength.bit1H : EncodedLength.Statement .bit1H := fun _ => rfl
theorem EncodedLength.bit1L : EncodedLength.Statement .bit1L := fun _ => rfl
theorem EncodedLength.bit1MemHl : EncodedLength.Statement .bit1MemHl := fun _ => rfl
theorem EncodedLength.bit1A : EncodedLength.Statement .bit1A := fun _ => rfl
theorem EncodedLength.bit2B : EncodedLength.Statement .bit2B := fun _ => rfl
theorem EncodedLength.bit2C : EncodedLength.Statement .bit2C := fun _ => rfl
theorem EncodedLength.bit2D : EncodedLength.Statement .bit2D := fun _ => rfl
theorem EncodedLength.bit2E : EncodedLength.Statement .bit2E := fun _ => rfl
theorem EncodedLength.bit2H : EncodedLength.Statement .bit2H := fun _ => rfl
theorem EncodedLength.bit2L : EncodedLength.Statement .bit2L := fun _ => rfl
theorem EncodedLength.bit2MemHl : EncodedLength.Statement .bit2MemHl := fun _ => rfl
theorem EncodedLength.bit2A : EncodedLength.Statement .bit2A := fun _ => rfl
theorem EncodedLength.bit3B : EncodedLength.Statement .bit3B := fun _ => rfl
theorem EncodedLength.bit3C : EncodedLength.Statement .bit3C := fun _ => rfl
theorem EncodedLength.bit3D : EncodedLength.Statement .bit3D := fun _ => rfl
theorem EncodedLength.bit3E : EncodedLength.Statement .bit3E := fun _ => rfl
theorem EncodedLength.bit3H : EncodedLength.Statement .bit3H := fun _ => rfl
theorem EncodedLength.bit3L : EncodedLength.Statement .bit3L := fun _ => rfl
theorem EncodedLength.bit3MemHl : EncodedLength.Statement .bit3MemHl := fun _ => rfl
theorem EncodedLength.bit3A : EncodedLength.Statement .bit3A := fun _ => rfl
theorem EncodedLength.bit4B : EncodedLength.Statement .bit4B := fun _ => rfl
theorem EncodedLength.bit4C : EncodedLength.Statement .bit4C := fun _ => rfl
theorem EncodedLength.bit4D : EncodedLength.Statement .bit4D := fun _ => rfl
theorem EncodedLength.bit4E : EncodedLength.Statement .bit4E := fun _ => rfl
theorem EncodedLength.bit4H : EncodedLength.Statement .bit4H := fun _ => rfl
theorem EncodedLength.bit4L : EncodedLength.Statement .bit4L := fun _ => rfl
theorem EncodedLength.bit4MemHl : EncodedLength.Statement .bit4MemHl := fun _ => rfl
theorem EncodedLength.bit4A : EncodedLength.Statement .bit4A := fun _ => rfl
theorem EncodedLength.bit5B : EncodedLength.Statement .bit5B := fun _ => rfl
theorem EncodedLength.bit5C : EncodedLength.Statement .bit5C := fun _ => rfl
theorem EncodedLength.bit5D : EncodedLength.Statement .bit5D := fun _ => rfl
theorem EncodedLength.bit5E : EncodedLength.Statement .bit5E := fun _ => rfl
theorem EncodedLength.bit5H : EncodedLength.Statement .bit5H := fun _ => rfl
theorem EncodedLength.bit5L : EncodedLength.Statement .bit5L := fun _ => rfl
theorem EncodedLength.bit5MemHl : EncodedLength.Statement .bit5MemHl := fun _ => rfl
theorem EncodedLength.bit5A : EncodedLength.Statement .bit5A := fun _ => rfl
theorem EncodedLength.bit6B : EncodedLength.Statement .bit6B := fun _ => rfl
theorem EncodedLength.bit6C : EncodedLength.Statement .bit6C := fun _ => rfl
theorem EncodedLength.bit6D : EncodedLength.Statement .bit6D := fun _ => rfl
theorem EncodedLength.bit6E : EncodedLength.Statement .bit6E := fun _ => rfl
theorem EncodedLength.bit6H : EncodedLength.Statement .bit6H := fun _ => rfl
theorem EncodedLength.bit6L : EncodedLength.Statement .bit6L := fun _ => rfl
theorem EncodedLength.bit6MemHl : EncodedLength.Statement .bit6MemHl := fun _ => rfl
theorem EncodedLength.bit6A : EncodedLength.Statement .bit6A := fun _ => rfl
theorem EncodedLength.bit7B : EncodedLength.Statement .bit7B := fun _ => rfl
theorem EncodedLength.bit7C : EncodedLength.Statement .bit7C := fun _ => rfl
theorem EncodedLength.bit7D : EncodedLength.Statement .bit7D := fun _ => rfl
theorem EncodedLength.bit7E : EncodedLength.Statement .bit7E := fun _ => rfl
theorem EncodedLength.bit7H : EncodedLength.Statement .bit7H := fun _ => rfl
theorem EncodedLength.bit7L : EncodedLength.Statement .bit7L := fun _ => rfl
theorem EncodedLength.bit7MemHl : EncodedLength.Statement .bit7MemHl := fun _ => rfl
theorem EncodedLength.bit7A : EncodedLength.Statement .bit7A := fun _ => rfl
theorem EncodedLength.res0B : EncodedLength.Statement .res0B := fun _ => rfl
theorem EncodedLength.res0C : EncodedLength.Statement .res0C := fun _ => rfl
theorem EncodedLength.res0D : EncodedLength.Statement .res0D := fun _ => rfl
theorem EncodedLength.res0E : EncodedLength.Statement .res0E := fun _ => rfl
theorem EncodedLength.res0H : EncodedLength.Statement .res0H := fun _ => rfl
theorem EncodedLength.res0L : EncodedLength.Statement .res0L := fun _ => rfl
theorem EncodedLength.res0MemHl : EncodedLength.Statement .res0MemHl := fun _ => rfl
theorem EncodedLength.res0A : EncodedLength.Statement .res0A := fun _ => rfl
theorem EncodedLength.res1B : EncodedLength.Statement .res1B := fun _ => rfl
theorem EncodedLength.res1C : EncodedLength.Statement .res1C := fun _ => rfl
theorem EncodedLength.res1D : EncodedLength.Statement .res1D := fun _ => rfl
theorem EncodedLength.res1E : EncodedLength.Statement .res1E := fun _ => rfl
theorem EncodedLength.res1H : EncodedLength.Statement .res1H := fun _ => rfl
theorem EncodedLength.res1L : EncodedLength.Statement .res1L := fun _ => rfl
theorem EncodedLength.res1MemHl : EncodedLength.Statement .res1MemHl := fun _ => rfl
theorem EncodedLength.res1A : EncodedLength.Statement .res1A := fun _ => rfl
theorem EncodedLength.res2B : EncodedLength.Statement .res2B := fun _ => rfl
theorem EncodedLength.res2C : EncodedLength.Statement .res2C := fun _ => rfl
theorem EncodedLength.res2D : EncodedLength.Statement .res2D := fun _ => rfl
theorem EncodedLength.res2E : EncodedLength.Statement .res2E := fun _ => rfl
theorem EncodedLength.res2H : EncodedLength.Statement .res2H := fun _ => rfl
theorem EncodedLength.res2L : EncodedLength.Statement .res2L := fun _ => rfl
theorem EncodedLength.res2MemHl : EncodedLength.Statement .res2MemHl := fun _ => rfl
theorem EncodedLength.res2A : EncodedLength.Statement .res2A := fun _ => rfl
theorem EncodedLength.res3B : EncodedLength.Statement .res3B := fun _ => rfl
theorem EncodedLength.res3C : EncodedLength.Statement .res3C := fun _ => rfl
theorem EncodedLength.res3D : EncodedLength.Statement .res3D := fun _ => rfl
theorem EncodedLength.res3E : EncodedLength.Statement .res3E := fun _ => rfl
theorem EncodedLength.res3H : EncodedLength.Statement .res3H := fun _ => rfl
theorem EncodedLength.res3L : EncodedLength.Statement .res3L := fun _ => rfl
theorem EncodedLength.res3MemHl : EncodedLength.Statement .res3MemHl := fun _ => rfl
theorem EncodedLength.res3A : EncodedLength.Statement .res3A := fun _ => rfl
theorem EncodedLength.res4B : EncodedLength.Statement .res4B := fun _ => rfl
theorem EncodedLength.res4C : EncodedLength.Statement .res4C := fun _ => rfl
theorem EncodedLength.res4D : EncodedLength.Statement .res4D := fun _ => rfl
theorem EncodedLength.res4E : EncodedLength.Statement .res4E := fun _ => rfl
theorem EncodedLength.res4H : EncodedLength.Statement .res4H := fun _ => rfl
theorem EncodedLength.res4L : EncodedLength.Statement .res4L := fun _ => rfl
theorem EncodedLength.res4MemHl : EncodedLength.Statement .res4MemHl := fun _ => rfl
theorem EncodedLength.res4A : EncodedLength.Statement .res4A := fun _ => rfl
theorem EncodedLength.res5B : EncodedLength.Statement .res5B := fun _ => rfl
theorem EncodedLength.res5C : EncodedLength.Statement .res5C := fun _ => rfl
theorem EncodedLength.res5D : EncodedLength.Statement .res5D := fun _ => rfl
theorem EncodedLength.res5E : EncodedLength.Statement .res5E := fun _ => rfl
theorem EncodedLength.res5H : EncodedLength.Statement .res5H := fun _ => rfl
theorem EncodedLength.res5L : EncodedLength.Statement .res5L := fun _ => rfl
theorem EncodedLength.res5MemHl : EncodedLength.Statement .res5MemHl := fun _ => rfl
theorem EncodedLength.res5A : EncodedLength.Statement .res5A := fun _ => rfl
theorem EncodedLength.res6B : EncodedLength.Statement .res6B := fun _ => rfl
theorem EncodedLength.res6C : EncodedLength.Statement .res6C := fun _ => rfl
theorem EncodedLength.res6D : EncodedLength.Statement .res6D := fun _ => rfl
theorem EncodedLength.res6E : EncodedLength.Statement .res6E := fun _ => rfl
theorem EncodedLength.res6H : EncodedLength.Statement .res6H := fun _ => rfl
theorem EncodedLength.res6L : EncodedLength.Statement .res6L := fun _ => rfl
theorem EncodedLength.res6MemHl : EncodedLength.Statement .res6MemHl := fun _ => rfl
theorem EncodedLength.res6A : EncodedLength.Statement .res6A := fun _ => rfl
theorem EncodedLength.res7B : EncodedLength.Statement .res7B := fun _ => rfl
theorem EncodedLength.res7C : EncodedLength.Statement .res7C := fun _ => rfl
theorem EncodedLength.res7D : EncodedLength.Statement .res7D := fun _ => rfl
theorem EncodedLength.res7E : EncodedLength.Statement .res7E := fun _ => rfl
theorem EncodedLength.res7H : EncodedLength.Statement .res7H := fun _ => rfl
theorem EncodedLength.res7L : EncodedLength.Statement .res7L := fun _ => rfl
theorem EncodedLength.res7MemHl : EncodedLength.Statement .res7MemHl := fun _ => rfl
theorem EncodedLength.res7A : EncodedLength.Statement .res7A := fun _ => rfl
theorem EncodedLength.set0B : EncodedLength.Statement .set0B := fun _ => rfl
theorem EncodedLength.set0C : EncodedLength.Statement .set0C := fun _ => rfl
theorem EncodedLength.set0D : EncodedLength.Statement .set0D := fun _ => rfl
theorem EncodedLength.set0E : EncodedLength.Statement .set0E := fun _ => rfl
theorem EncodedLength.set0H : EncodedLength.Statement .set0H := fun _ => rfl
theorem EncodedLength.set0L : EncodedLength.Statement .set0L := fun _ => rfl
theorem EncodedLength.set0MemHl : EncodedLength.Statement .set0MemHl := fun _ => rfl
theorem EncodedLength.set0A : EncodedLength.Statement .set0A := fun _ => rfl
theorem EncodedLength.set1B : EncodedLength.Statement .set1B := fun _ => rfl
theorem EncodedLength.set1C : EncodedLength.Statement .set1C := fun _ => rfl
theorem EncodedLength.set1D : EncodedLength.Statement .set1D := fun _ => rfl
theorem EncodedLength.set1E : EncodedLength.Statement .set1E := fun _ => rfl
theorem EncodedLength.set1H : EncodedLength.Statement .set1H := fun _ => rfl
theorem EncodedLength.set1L : EncodedLength.Statement .set1L := fun _ => rfl
theorem EncodedLength.set1MemHl : EncodedLength.Statement .set1MemHl := fun _ => rfl
theorem EncodedLength.set1A : EncodedLength.Statement .set1A := fun _ => rfl
theorem EncodedLength.set2B : EncodedLength.Statement .set2B := fun _ => rfl
theorem EncodedLength.set2C : EncodedLength.Statement .set2C := fun _ => rfl
theorem EncodedLength.set2D : EncodedLength.Statement .set2D := fun _ => rfl
theorem EncodedLength.set2E : EncodedLength.Statement .set2E := fun _ => rfl
theorem EncodedLength.set2H : EncodedLength.Statement .set2H := fun _ => rfl
theorem EncodedLength.set2L : EncodedLength.Statement .set2L := fun _ => rfl
theorem EncodedLength.set2MemHl : EncodedLength.Statement .set2MemHl := fun _ => rfl
theorem EncodedLength.set2A : EncodedLength.Statement .set2A := fun _ => rfl
theorem EncodedLength.set3B : EncodedLength.Statement .set3B := fun _ => rfl
theorem EncodedLength.set3C : EncodedLength.Statement .set3C := fun _ => rfl
theorem EncodedLength.set3D : EncodedLength.Statement .set3D := fun _ => rfl
theorem EncodedLength.set3E : EncodedLength.Statement .set3E := fun _ => rfl
theorem EncodedLength.set3H : EncodedLength.Statement .set3H := fun _ => rfl
theorem EncodedLength.set3L : EncodedLength.Statement .set3L := fun _ => rfl
theorem EncodedLength.set3MemHl : EncodedLength.Statement .set3MemHl := fun _ => rfl
theorem EncodedLength.set3A : EncodedLength.Statement .set3A := fun _ => rfl
theorem EncodedLength.set4B : EncodedLength.Statement .set4B := fun _ => rfl
theorem EncodedLength.set4C : EncodedLength.Statement .set4C := fun _ => rfl
theorem EncodedLength.set4D : EncodedLength.Statement .set4D := fun _ => rfl
theorem EncodedLength.set4E : EncodedLength.Statement .set4E := fun _ => rfl
theorem EncodedLength.set4H : EncodedLength.Statement .set4H := fun _ => rfl
theorem EncodedLength.set4L : EncodedLength.Statement .set4L := fun _ => rfl
theorem EncodedLength.set4MemHl : EncodedLength.Statement .set4MemHl := fun _ => rfl
theorem EncodedLength.set4A : EncodedLength.Statement .set4A := fun _ => rfl
theorem EncodedLength.set5B : EncodedLength.Statement .set5B := fun _ => rfl
theorem EncodedLength.set5C : EncodedLength.Statement .set5C := fun _ => rfl
theorem EncodedLength.set5D : EncodedLength.Statement .set5D := fun _ => rfl
theorem EncodedLength.set5E : EncodedLength.Statement .set5E := fun _ => rfl
theorem EncodedLength.set5H : EncodedLength.Statement .set5H := fun _ => rfl
theorem EncodedLength.set5L : EncodedLength.Statement .set5L := fun _ => rfl
theorem EncodedLength.set5MemHl : EncodedLength.Statement .set5MemHl := fun _ => rfl
theorem EncodedLength.set5A : EncodedLength.Statement .set5A := fun _ => rfl
theorem EncodedLength.set6B : EncodedLength.Statement .set6B := fun _ => rfl
theorem EncodedLength.set6C : EncodedLength.Statement .set6C := fun _ => rfl
theorem EncodedLength.set6D : EncodedLength.Statement .set6D := fun _ => rfl
theorem EncodedLength.set6E : EncodedLength.Statement .set6E := fun _ => rfl
theorem EncodedLength.set6H : EncodedLength.Statement .set6H := fun _ => rfl
theorem EncodedLength.set6L : EncodedLength.Statement .set6L := fun _ => rfl
theorem EncodedLength.set6MemHl : EncodedLength.Statement .set6MemHl := fun _ => rfl
theorem EncodedLength.set6A : EncodedLength.Statement .set6A := fun _ => rfl
theorem EncodedLength.set7B : EncodedLength.Statement .set7B := fun _ => rfl
theorem EncodedLength.set7C : EncodedLength.Statement .set7C := fun _ => rfl
theorem EncodedLength.set7D : EncodedLength.Statement .set7D := fun _ => rfl
theorem EncodedLength.set7E : EncodedLength.Statement .set7E := fun _ => rfl
theorem EncodedLength.set7H : EncodedLength.Statement .set7H := fun _ => rfl
theorem EncodedLength.set7L : EncodedLength.Statement .set7L := fun _ => rfl
theorem EncodedLength.set7MemHl : EncodedLength.Statement .set7MemHl := fun _ => rfl
theorem EncodedLength.set7A : EncodedLength.Statement .set7A := fun _ => rfl

end Sys2Proof.Laws
end

