-- ==== Sys2Proof/Laws/Step.lean ====
section
/-! SUPPORT. What each phase of a step leaves unchanged, and what a step answers once its CPU phase has. -/

namespace Sys2Proof.Machine

variable {s t : State}

/-! The phases. -/

/-- One turn of the controller at the identity hook, where it raises nothing, changes memory only. -/
theorem serviceSource_mem_only {active : Byte} {n : Nat} (h : serviceSource intHook active s n = .ok t) :
    t = { s with mem := t.mem } := by
  unfold serviceSource at h
  split at h
  · cases hc : s.clearPending n with
    | error f => simp [hc, bind, Except.bind] at h
    | ok u =>
      simp only [hc, bind, Except.bind, intHook] at h
      split at h
      · cases h
        exact (State.writeByte_memoryStep hc).only
      · cases h
  · cases h
    rfl

theorem foldlM_serviceSource_mem_only {active : Byte} {l : List Nat}
    (h : l.foldlM (serviceSource intHook active) s = .ok t) : t = { s with mem := t.mem } := by
  induction l generalizing s with
  | nil =>
    cases h
    rfl
  | cons n l ih =>
    rw [List.foldlM_cons] at h
    cases hn : serviceSource intHook active s n with
    | error f => simp [hn, bind, Except.bind] at h
    | ok u =>
      simp only [hn, bind, Except.bind] at h
      rw [ih h, serviceSource_mem_only hn]

/-- The interrupt controller at the identity hook, where it raises nothing, changes memory only (60_exceptions.md R352). -/
theorem icPhase_mem_only (h : icPhase intHook s = .ok t) : t = { s with mem := t.mem } := by
  unfold icPhase at h
  split at h
  · exact foldlM_serviceSource_mem_only h
  · cases h
    rfl

/-- The PPU changes its own state and memory only (60_exceptions.md R360). -/
theorem ppuPhase_own_state (s : State) :
    ppuPhase s = { s with
      mem := (ppuPhase s).mem, ppuMode := (ppuPhase s).ppuMode, ppuLy := (ppuPhase s).ppuLy, ppuSub := (ppuPhase s).ppuSub } := by
  unfold ppuPhase
  split
  · rfl
  · unfold ppuVblank
    split <;> rfl
  · unfold ppuOamRead
    split <;> rfl
  · unfold ppuOamVramRead
    split <;> rfl

@[simp] theorem ppuPhase_a : (ppuPhase s).a = s.a := by rw [ppuPhase_own_state]
@[simp] theorem ppuPhase_f : (ppuPhase s).f = s.f := by rw [ppuPhase_own_state]
@[simp] theorem ppuPhase_b : (ppuPhase s).b = s.b := by rw [ppuPhase_own_state]
@[simp] theorem ppuPhase_c : (ppuPhase s).c = s.c := by rw [ppuPhase_own_state]
@[simp] theorem ppuPhase_d : (ppuPhase s).d = s.d := by rw [ppuPhase_own_state]
@[simp] theorem ppuPhase_e : (ppuPhase s).e = s.e := by rw [ppuPhase_own_state]
@[simp] theorem ppuPhase_h : (ppuPhase s).h = s.h := by rw [ppuPhase_own_state]
@[simp] theorem ppuPhase_l : (ppuPhase s).l = s.l := by rw [ppuPhase_own_state]
@[simp] theorem ppuPhase_sp : (ppuPhase s).sp = s.sp := by rw [ppuPhase_own_state]
@[simp] theorem ppuPhase_pc : (ppuPhase s).pc = s.pc := by rw [ppuPhase_own_state]
@[simp] theorem ppuPhase_ime : (ppuPhase s).ime = s.ime := by rw [ppuPhase_own_state]
@[simp] theorem ppuPhase_eiPending : (ppuPhase s).eiPending = s.eiPending := by rw [ppuPhase_own_state]
@[simp] theorem ppuPhase_halted : (ppuPhase s).halted = s.halted := by rw [ppuPhase_own_state]
@[simp] theorem ppuPhase_fault : (ppuPhase s).fault = s.fault := by rw [ppuPhase_own_state]
@[simp] theorem ppuPhase_rom : (ppuPhase s).rom = s.rom := by rw [ppuPhase_own_state]
@[simp] theorem ppuPhase_bankMode : (ppuPhase s).bankMode = s.bankMode := by rw [ppuPhase_own_state]
@[simp] theorem ppuPhase_launch : (ppuPhase s).launch = s.launch := by rw [ppuPhase_own_state]
@[simp] theorem ppuPhase_cfg : (ppuPhase s).cfg = s.cfg := by rw [ppuPhase_own_state]

@[simp] theorem State.commitEi_fault (b : Bool) : (s.commitEi b).fault = s.fault := by
  unfold State.commitEi
  split <;> rfl

/-- What the phases after the CPU phase can do at the identity hook. -/
theorem State.finishPhases_cases (s : State) (b : Bool) :
    (∃ t, icPhase intHook (s.commitEi b) = .ok t ∧ t = { s.commitEi b with mem := t.mem } ∧
      s.finishPhases intHook b = .ok (ppuPhase t)) ∨
    ∃ f, icPhase intHook (s.commitEi b) = .error f ∧ s.finishPhases intHook b = .error f := by
  cases h : icPhase intHook (s.commitEi b) with
  | ok t => exact .inl ⟨t, rfl, icPhase_mem_only h, by simp [State.finishPhases, h, bind, Except.bind]⟩
  | error f => exact .inr ⟨f, rfl, by simp [State.finishPhases, h, bind, Except.bind]⟩

@[simp] theorem State.wake_fault : s.wake.fault = s.fault := by
  unfold State.wake
  split <;> rfl

/-! The step. -/

/-- After a CPU phase that raised nothing, the other phases run. -/
theorem State.afterInstr_next (hook : Nat → State → State) (h : t.fault = none) :
    s.afterInstr hook (.next t) = s.complete (t.finishPhases hook s.eiPending) := by
  simp [State.afterInstr, h]

/-- After a CPU phase that raised a fault, only the fault is recorded. -/
theorem State.afterInstr_fault (hook : Nat → State → State) {f : Fault} (h : t.fault = some f) :
    s.afterInstr hook (.next t) = .next (s.takeFault f) := by
  simp [State.afterInstr, h]

/-- A halted step. -/
theorem step_halted (hf : s.fault = none) (hh : s.halted = true) :
    step s = s.complete (s.wake.finishPhases intHook s.eiPending) := by
  rw [step, stepWith, hf]
  simp only [hh, if_true]
  exact State.afterInstr_next intHook (by simp [hf])

/-- A step whose fetch or decode raises a fault. -/
theorem step_fetch_error {f : Fault} (hf : s.fault = none) (hh : s.halted = false) (h : s.fetch = .error f) :
    step s = .next (s.takeFault f) := by
  simp [step, stepWith, hf, hh, h]

/-- A step that fetches an instruction. -/
theorem step_fetch_ok {i : Instr} (hf : s.fault = none) (hh : s.halted = false) (h : s.fetch = .ok i) :
    step s = s.afterInstr intHook (exec i s) := by
  simp [step, stepWith, hf, hh, h]

end Sys2Proof.Machine
end

