-- ==== Sys2Proof/Tests/Slice0.lean ====
section
/-! SUPPORT. Our own tests. Expected results come from the spec: the encodings of spec/opcode_table.json and 30_encoding.md
R109 and R110, and the Example lines of the instruction rules. At the end, for each statement that has hypotheses, a named
witness of all of them together, one for each clause, at a boundary value where the clause has a range. -/

namespace Sys2Proof.Tests

open Sys2Proof.Machine Sys2Proof.Spec

/-! Well-formedness. -/

/-- `illegal` is the one constructor whose operand is checked: NOP's opcode and LD B,B's are refused, an unassigned one not. -/
theorem test_wellFormed_refuses : Instr.wellFormed (.illegal 0x00) = false ∧ Instr.wellFormed (.illegal 0x40) = false := by
  decide

theorem test_wellFormed_accepts : Instr.wellFormed (.illegal 0xD3) = true ∧ Instr.wellFormed (.ldBN 0xFF) = true := by
  decide

/-! Decoding: every row of the opcode table, by its word, with the operand bytes 0x34 and 0x12 after it. -/

/-- The instruction at the front of an opcode followed by 0x34 and 0x12. -/
def read (op : Nat) : Option Instr := ((decode [byte op, 0x34, 0x12]).toOption).map Prod.fst

/-- The instruction of a 0xCB sub-opcode. -/
def readCb (sub : Nat) : Option Instr := ((decode [0xCB, byte sub]).toOption).map Prod.fst

theorem test_decode_0x : (List.range 16).map (fun k => read (0x00 + k)) =
    [some .nop, some (.ldBcNn 0x1234), some .ldMemBcA, some .incBc, some .incB, some .decB, some (.ldBN 0x34), some .rlca,
     some (.ldMemNnSp 0x1234), some .addHlBc, some .ldAMemBc, some .decBc, some .incC, some .decC, some (.ldCN 0x34),
     some .rrca] := by
  decide

theorem test_decode_1x : (List.range 16).map (fun k => read (0x10 + k)) =
    [some (.stop 0x34), some (.ldDeNn 0x1234), some .ldMemDeA, some .incDe, some .incD, some .decD, some (.ldDN 0x34),
     some .rla, some (.jrE 0x34), some .addHlDe, some .ldAMemDe, some .decDe, some .incE, some .decE, some (.ldEN 0x34),
     some .rra] := by
  decide

theorem test_decode_2x : (List.range 16).map (fun k => read (0x20 + k)) =
    [some (.jrNzE 0x34), some (.ldHlNn 0x1234), some .ldMemHlIncA, some .incHl, some .incH, some .decH, some (.ldHN 0x34),
     some .daa, some (.jrZE 0x34), some .addHlHl, some .ldAMemHlInc, some .decHl, some .incL, some .decL, some (.ldLN 0x34),
     some .cpl] := by
  decide

theorem test_decode_3x : (List.range 16).map (fun k => read (0x30 + k)) =
    [some (.jrNcE 0x34), some (.ldSpNn 0x1234), some .ldMemHlDecA, some .incSp, some .incMemHl, some .decMemHl,
     some (.ldMemHlN 0x34), some .scf, some (.jrCE 0x34), some .addHlSp, some .ldAMemHlDec, some .decSp, some .incA,
     some .decA, some (.ldAN 0x34), some .ccf] := by
  decide

theorem test_decode_4x : (List.range 16).map (fun k => read (0x40 + k)) =
    [some .ldBB, some .ldBC, some .ldBD, some .ldBE, some .ldBH, some .ldBL, some .ldBMemHl, some .ldBA, some .ldCB,
     some .ldCC, some .ldCD, some .ldCE, some .ldCH, some .ldCL, some .ldCMemHl, some .ldCA] := by
  decide

theorem test_decode_5x : (List.range 16).map (fun k => read (0x50 + k)) =
    [some .ldDB, some .ldDC, some .ldDD, some .ldDE, some .ldDH, some .ldDL, some .ldDMemHl, some .ldDA, some .ldEB,
     some .ldEC, some .ldED, some .ldEE, some .ldEH, some .ldEL, some .ldEMemHl, some .ldEA] := by
  decide

theorem test_decode_6x : (List.range 16).map (fun k => read (0x60 + k)) =
    [some .ldHB, some .ldHC, some .ldHD, some .ldHE, some .ldHH, some .ldHL, some .ldHMemHl, some .ldHA, some .ldLB,
     some .ldLC, some .ldLD, some .ldLE, some .ldLH, some .ldLL, some .ldLMemHl, some .ldLA] := by
  decide

theorem test_decode_7x : (List.range 16).map (fun k => read (0x70 + k)) =
    [some .ldMemHlB, some .ldMemHlC, some .ldMemHlD, some .ldMemHlE, some .ldMemHlH, some .ldMemHlL, some .halt,
     some .ldMemHlA, some .ldAB, some .ldAC, some .ldAD, some .ldAE, some .ldAH, some .ldAL, some .ldAMemHl, some .ldAA] := by
  decide

theorem test_decode_8x : (List.range 16).map (fun k => read (0x80 + k)) =
    [some .addAB, some .addAC, some .addAD, some .addAE, some .addAH, some .addAL, some .addAMemHl, some .addAA,
     some .adcAB, some .adcAC, some .adcAD, some .adcAE, some .adcAH, some .adcAL, some .adcAMemHl, some .adcAA] := by
  decide

theorem test_decode_9x : (List.range 16).map (fun k => read (0x90 + k)) =
    [some .subB, some .subC, some .subD, some .subE, some .subH, some .subL, some .subMemHl, some .subA, some .sbcAB,
     some .sbcAC, some .sbcAD, some .sbcAE, some .sbcAH, some .sbcAL, some .sbcAMemHl, some .sbcAA] := by
  decide

theorem test_decode_Ax : (List.range 16).map (fun k => read (0xA0 + k)) =
    [some .andB, some .andC, some .andD, some .andE, some .andH, some .andL, some .andMemHl, some .andA, some .xorB,
     some .xorC, some .xorD, some .xorE, some .xorH, some .xorL, some .xorMemHl, some .xorA] := by
  decide

theorem test_decode_Bx : (List.range 16).map (fun k => read (0xB0 + k)) =
    [some .orB, some .orC, some .orD, some .orE, some .orH, some .orL, some .orMemHl, some .orA, some .cpB, some .cpC,
     some .cpD, some .cpE, some .cpH, some .cpL, some .cpMemHl, some .cpA] := by
  decide

theorem test_decode_Cx : (List.range 16).map (fun k => read (0xC0 + k)) =
    [some .retNz, some .popBc, some (.jpNzNn 0x1234), some (.jpNn 0x1234), some (.callNzNn 0x1234), some .pushBc,
     some (.addAN 0x34), some .rst00, some .retZ, some .ret, some (.jpZNn 0x1234), some .swapH, some (.callZNn 0x1234),
     some (.callNn 0x1234), some (.adcAN 0x34), some .rst08] := by
  decide

theorem test_decode_Dx : (List.range 16).map (fun k => read (0xD0 + k)) =
    [some .retNc, some .popDe, some (.jpNcNn 0x1234), some (.illegal 0xD3), some (.callNcNn 0x1234), some .pushDe,
     some (.subN 0x34), some .rst10, some .retC, some .reti, some (.jpCNn 0x1234), some (.illegal 0xDB),
     some (.callCNn 0x1234), some (.illegal 0xDD), some (.sbcAN 0x34), some .rst18] := by
  decide

theorem test_decode_Ex : (List.range 16).map (fun k => read (0xE0 + k)) =
    [some (.ldhMemNA 0x34), some .popHl, some .ldMemCA, some (.illegal 0xE3), some (.illegal 0xE4), some .pushHl,
     some (.andN 0x34), some .rst20, some (.addSpE 0x34), some .jpHl, some (.ldMemNnA 0x1234), some (.illegal 0xEB),
     some (.illegal 0xEC), some (.illegal 0xED), some (.xorN 0x34), some .rst28] := by
  decide

theorem test_decode_Fx : (List.range 16).map (fun k => read (0xF0 + k)) =
    [some (.ldhAMemN 0x34), some .popAf, some .ldAMemC, some .di, some (.illegal 0xF4), some .pushAf, some (.orN 0x34),
     some .rst30, some (.ldHlSpE 0x34), some .ldSpHl, some (.ldAMemNn 0x1234), some .ei, some (.illegal 0xFC),
     some (.illegal 0xFD), some (.cpN 0x34), some .rst38] := by
  decide

theorem test_decode_cb_0x : (List.range 16).map (fun k => readCb (0x00 + k)) =
    [some .rlcB, some .rlcC, some .rlcD, some .rlcE, some .rlcH, some .rlcL, some .rlcMemHl, some .rlcA, some .rrcB,
     some .rrcC, some .rrcD, some .rrcE, some .rrcH, some .rrcL, some .rrcMemHl, some .rrcA] := by
  decide

theorem test_decode_cb_1x : (List.range 16).map (fun k => readCb (0x10 + k)) =
    [some .rlB, some .rlC, some .rlD, some .rlE, some .rlH, some .rlL, some .rlMemHl, some .rlA, some .rrB, some .rrC,
     some .rrD, some .rrE, some .rrH, some .rrL, some .rrMemHl, some .rrA] := by
  decide

theorem test_decode_cb_2x : (List.range 16).map (fun k => readCb (0x20 + k)) =
    [some .slaB, some .slaC, some .slaD, some .slaE, some .slaH, some .slaL, some .slaMemHl, some .slaA, some .sraB,
     some .sraC, some .sraD, some .sraE, some .sraH, some .sraL, some .sraMemHl, some .sraA] := by
  decide

theorem test_decode_cb_3x : (List.range 16).map (fun k => readCb (0x30 + k)) =
    [some .swapB, some .swapC, some .swapD, some .swapE, some .swapH, some .swapL, some .swapMemHl, some .swapA, some .srlB,
     some .srlC, some .srlD, some .srlE, some .srlH, some .srlL, some .srlMemHl, some .srlA] := by
  decide

theorem test_decode_cb_4x : (List.range 16).map (fun k => readCb (0x40 + k)) =
    [some .bit0B, some .bit0C, some .bit0D, some .bit0E, some .bit0H, some .bit0L, some .bit0MemHl, some .bit0A,
     some .bit1B, some .bit1C, some .bit1D, some .bit1E, some .bit1H, some .bit1L, some .bit1MemHl, some .bit1A] := by
  decide

theorem test_decode_cb_5x : (List.range 16).map (fun k => readCb (0x50 + k)) =
    [some .bit2B, some .bit2C, some .bit2D, some .bit2E, some .bit2H, some .bit2L, some .bit2MemHl, some .bit2A,
     some .bit3B, some .bit3C, some .bit3D, some .bit3E, some .bit3H, some .bit3L, some .bit3MemHl, some .bit3A] := by
  decide

theorem test_decode_cb_6x : (List.range 16).map (fun k => readCb (0x60 + k)) =
    [some .bit4B, some .bit4C, some .bit4D, some .bit4E, some .bit4H, some .bit4L, some .bit4MemHl, some .bit4A,
     some .bit5B, some .bit5C, some .bit5D, some .bit5E, some .bit5H, some .bit5L, some .bit5MemHl, some .bit5A] := by
  decide

theorem test_decode_cb_7x : (List.range 16).map (fun k => readCb (0x70 + k)) =
    [some .bit6B, some .bit6C, some .bit6D, some .bit6E, some .bit6H, some .bit6L, some .bit6MemHl, some .bit6A,
     some .bit7B, some .bit7C, some .bit7D, some .bit7E, some .bit7H, some .bit7L, some .bit7MemHl, some .bit7A] := by
  decide

theorem test_decode_cb_8x : (List.range 16).map (fun k => readCb (0x80 + k)) =
    [some .res0B, some .res0C, some .res0D, some .res0E, some .res0H, some .res0L, some .res0MemHl, some .res0A,
     some .res1B, some .res1C, some .res1D, some .res1E, some .res1H, some .res1L, some .res1MemHl, some .res1A] := by
  decide

theorem test_decode_cb_9x : (List.range 16).map (fun k => readCb (0x90 + k)) =
    [some .res2B, some .res2C, some .res2D, some .res2E, some .res2H, some .res2L, some .res2MemHl, some .res2A,
     some .res3B, some .res3C, some .res3D, some .res3E, some .res3H, some .res3L, some .res3MemHl, some .res3A] := by
  decide

theorem test_decode_cb_Ax : (List.range 16).map (fun k => readCb (0xA0 + k)) =
    [some .res4B, some .res4C, some .res4D, some .res4E, some .res4H, some .res4L, some .res4MemHl, some .res4A,
     some .res5B, some .res5C, some .res5D, some .res5E, some .res5H, some .res5L, some .res5MemHl, some .res5A] := by
  decide

theorem test_decode_cb_Bx : (List.range 16).map (fun k => readCb (0xB0 + k)) =
    [some .res6B, some .res6C, some .res6D, some .res6E, some .res6H, some .res6L, some .res6MemHl, some .res6A,
     some .res7B, some .res7C, some .res7D, some .res7E, some .res7H, some .res7L, some .res7MemHl, some .res7A] := by
  decide

theorem test_decode_cb_Cx : (List.range 16).map (fun k => readCb (0xC0 + k)) =
    [some .set0B, some .set0C, some .set0D, some .set0E, some .set0H, some .set0L, some .set0MemHl, some .set0A,
     some .set1B, some .set1C, some .set1D, some .set1E, some .set1H, some .set1L, some .set1MemHl, some .set1A] := by
  decide

theorem test_decode_cb_Dx : (List.range 16).map (fun k => readCb (0xD0 + k)) =
    [some .set2B, some .set2C, some .set2D, some .set2E, some .set2H, some .set2L, some .set2MemHl, some .set2A,
     some .set3B, some .set3C, some .set3D, some .set3E, some .set3H, some .set3L, some .set3MemHl, some .set3A] := by
  decide

theorem test_decode_cb_Ex : (List.range 16).map (fun k => readCb (0xE0 + k)) =
    [some .set4B, some .set4C, some .set4D, some .set4E, some .set4H, some .set4L, some .set4MemHl, some .set4A,
     some .set5B, some .set5C, some .set5D, some .set5E, some .set5H, some .set5L, some .set5MemHl, some .set5A] := by
  decide

theorem test_decode_cb_Fx : (List.range 16).map (fun k => readCb (0xF0 + k)) =
    [some .set6B, some .set6C, some .set6D, some .set6E, some .set6H, some .set6L, some .set6MemHl, some .set6A,
     some .set7B, some .set7C, some .set7D, some .set7E, some .set7H, some .set7L, some .set7MemHl, some .set7A] := by
  decide

/-- Only missing bytes are refused, by name. -/
theorem test_decode_refuses :
    decode [] = .error .noOpcode ∧ decode [0xC3, 0x50] = .error (.truncated 0xC3) ∧ decode [0xCB] = .error (.truncated 0xCB) := by
  decide

/-- The numbering of the table: the primary bytes little-endian, a 0xCB row as the big-endian number 0xCBoo (R119). -/
theorem test_decodeTableWord :
    decodeTableWord 8 0x3E = some (.ldAN 0x00) ∧ decodeTableWord 16 0x423E = some (.ldAN 0x42) ∧
      decodeTableWord 24 0x0150C3 = some (.jpNn 0x0150) ∧ decodeTableWord 16 0xCB37 = some .swapA := by
  decide

/-! One step on small states. -/

/-- A state with its program in RAM. -/
def ram : State := { State.reset with pc := 0xC000, h := 0xC1, l := 0x00, f := 0x00 }

/-- The state after one step from `s` with the bytes at PC. -/
def after (s : State) (bytes : List Byte) : State :=
  match step (s.placeBytes s.pc bytes) with
  | .next t => t
  | .fault _ => s
  | .refused _ => s

/-- R137. -/
theorem test_nop :
    let u := after ram [0x00]
    (u.pc, u.a) = (0xC001, 0x01) := by
  decide

/-- R138, no source active: it halts. -/
theorem test_halt :
    let u := after ram [0x76]
    (u.halted, u.pc) = (true, 0xC001) := by
  decide

/-- R138, a source active with IME = 0. -/
theorem test_halt_bug : (after (State.placeByte (State.placeByte ram 0xFFFF 0x01) 0xFF0F 0x01) [0x76]).fault = some (.unmodelled 0x76 0xC000) := by
  decide

/-- R140, the default policy. -/
theorem test_stop :
    let u := after { ram with pc := 0xC150 } [0x10, 0x00]
    (u.fault, u.pc) = (some (.unmodelled 0x10 0xC150), 0xC150) := by
  decide

/-- R140, STOP_POLICY = nop. -/
theorem test_stop_nop :
    let u := after { ram with cfg := { Config.defaults with stopPolicy := .nop } } [0x10, 0x00]
    (u.fault, u.pc) = (none, 0xC002) := by
  decide

/-- R141, after an EI. -/
theorem test_di :
    let u := after { ram with ime := true, eiPending := true } [0xF3]
    (u.ime, u.eiPending) = (false, false) := by
  decide

/-- R142. -/
theorem test_ei :
    let u := after ram [0xFB]
    (u.ime, u.eiPending) = (false, true) := by
  decide

/-- R142: the second step ends with IME = 1. -/
theorem test_ei_then_nop :
    let u := after { ram with eiPending := true } [0x00]
    (u.ime, u.eiPending) = (true, false) := by
  decide

/-- R143. -/
theorem test_prefix_cb :
    let u := after { ram with a := 0x12 } [0xCB, 0x37]
    (u.a, u.pc) = (0x21, 0xC002) := by
  decide

/-- R144. -/
theorem test_illegal :
    let u := after ram [0xD3]
    (u.fault, u.pc) = (some (.unmappedOpcode 0xD3 0xC000), 0xC000) := by
  decide

/-- R160. -/
theorem test_ld_b_c :
    let u := after { ram with b := 0x00, c := 0x13 } [0x41]
    (u.b, u.c) = (0x13, 0x13) := by
  decide

/-- R161. -/
theorem test_ld_a_n :
    let u := after ram [0x3E, 0x42]
    (u.a, u.pc) = (0x42, 0xC002) := by
  decide

/-- R162. -/
theorem test_ld_a_memHl : (after (State.placeByte ram 0xC100 0x99) [0x7E]).a = 0x99 := by
  decide

/-- R163. -/
theorem test_ld_memHl_b_echo :
    let u := after { ram with h := 0xC0, l := 0x10, b := 0x5A } [0x70]
    (u.readByte 0xC010, u.readByte 0xE010) = (0x5A, 0x5A) := by
  decide

/-- R164. -/
theorem test_ld_memHl_n : (after { ram with h := 0xFF, l := 0x80 } [0x36, 0x07]).readByte 0xFF80 = 0x07 := by
  decide

/-- R166. -/
theorem test_ld_a_memDe : (after (State.placeByte { ram with d := 0xC1, e := 0x00 } 0xC100 0x01) [0x1A]).a = 0x01 := by
  decide

/-- R167, a store into the echo region. -/
theorem test_ld_memBc_a_echo :
    let u := after { ram with b := 0xE0, c := 0x05, a := 0x77 } [0x02]
    (u.readByte 0xE005, u.readByte 0xC005) = (0x77, 0x77) := by
  decide

/-- R168, beyond the mirror length. -/
theorem test_ld_memDe_a_beyond_echo :
    let u := after { ram with d := 0xDE, e := 0x00, a := 0x11 } [0x12]
    (u.readByte 0xDE00, u.readByte 0xFE00) = (0x11, 0x00) := by
  decide

/-- R169. -/
theorem test_ld_a_memNn : (after (State.placeByte ram 0xFF44 0x90) [0xFA, 0x44, 0xFF]).a = 0x90 := by
  decide

/-- R170. -/
theorem test_ld_memNn_a :
    let u := after { ram with a := 0x05 } [0xEA, 0x0F, 0xFF]
    (u.readByte 0xFF0F, u.pc) = (0x05, 0xC003) := by
  decide

/-- R171. -/
theorem test_ldh_a_n : (after (State.placeByte ram 0xFF44 0x90) [0xF0, 0x44]).a = 0x90 := by
  decide

/-- R172. -/
theorem test_ldh_n_a : (after { ram with a := 0x01 } [0xE0, 0xFF]).readByte 0xFFFF = 0x01 := by
  decide

/-- R173. -/
theorem test_ld_a_memC : (after (State.placeByte { ram with c := 0x80 } 0xFF80 0x3C) [0xF2]).a = 0x3C := by
  decide

/-- R174. -/
theorem test_ld_memC_a : (after { ram with c := 0x81, a := 0xAA } [0xE2]).readByte 0xFF81 = 0xAA := by
  decide

/-- R175, HL = 0xFFFF stores to IE and wraps. -/
theorem test_ld_memHlInc_a_wraps :
    let u := after { ram with h := 0xFF, l := 0xFF, a := 0x05 } [0x22]
    (u.readByte 0xFFFF, u.hl) = (0x05, 0x0000) := by
  decide

/-- R176. -/
theorem test_ld_a_memHlInc :
    let u := after (State.placeByte ram 0xC100 0xCE) [0x2A]
    (u.a, u.hl) = (0xCE, 0xC101) := by
  decide

/-- R177. -/
theorem test_ld_memHlDec_a :
    let u := after { ram with h := 0xDF, l := 0xFF, a := 0x77 } [0x32]
    (u.readByte 0xDFFF, u.hl) = (0x77, 0xDFFE) := by
  decide

/-- R178, HL = 0x0000 reads the image and wraps. -/
theorem test_ld_a_memHlDec_wraps :
    let u := after { ram with h := 0x00, l := 0x00 } [0x3A]
    (u.a, u.hl) = (0x00, 0xFFFF) := by
  decide

/-- R191. -/
theorem test_ld_sp_nn : (after ram [0x31, 0xFE, 0xFF]).sp = 0xFFFE := by
  decide

/-- R191. -/
theorem test_ld_hl_nn :
    let u := after ram [0x21, 0x34, 0x12]
    (u.h, u.l) = (0x12, 0x34) := by
  decide

/-- R192. -/
theorem test_ld_memNn_sp :
    let u := after { ram with sp := 0xFFF8 } [0x08, 0x00, 0xC1]
    (u.readByte 0xC100, u.readByte 0xC101) = (0xF8, 0xFF) := by
  decide

/-- R193. -/
theorem test_ld_sp_hl : (after { ram with h := 0xDF, l := 0xF0 } [0xF9]).sp = 0xDFF0 := by
  decide

/-- R194. -/
theorem test_ld_hl_sp_e :
    let u := after { ram with sp := 0xFFF8 } [0xF8, 0x08]
    (u.hl, u.f) = (0x0000, 0x30) := by
  decide

/-- R194. -/
theorem test_ld_hl_sp_e_negative :
    let u := after { ram with sp := 0xFFFF } [0xF8, 0xFF]
    (u.hl, u.f) = (0xFFFE, 0x30) := by
  decide

/-- R195. -/
theorem test_push_bc :
    let u := after { ram with b := 0x12, c := 0x34 } [0xC5]
    (u.sp, u.readByte 0xFFFC, u.readByte 0xFFFD) = (0xFFFC, 0x34, 0x12) := by
  decide

/-- R190, SP = 0x0001 pushes to 0xFFFF and 0x0000. -/
theorem test_push_wraps :
    let u := after { ram with sp := 0x0001, b := 0x12, c := 0x34 } [0xC5]
    (u.sp, u.readByte 0xFFFF, u.readByte 0x0000) = (0xFFFF, 0x34, 0x00) := by
  decide

/-- R196. -/
theorem test_pop_de :
    let u := after (State.placeByte (State.placeByte { ram with sp := 0xFFFC } 0xFFFC 0x34) 0xFFFD 0x12) [0xD1]
    (u.de, u.sp) = (0x1234, 0xFFFE) := by
  decide

/-- R197, a popped low byte 0xFF. -/
theorem test_pop_af_masks :
    let u := after (State.placeByte (State.placeByte { ram with sp := 0xFFFC } 0xFFFC 0xFF) 0xFFFD 0x01) [0xF1]
    (u.a, u.f) = (0x01, 0xF0) := by
  decide

/-- R211. -/
theorem test_add_b :
    let u := after { ram with a := 0x3A, b := 0xC6 } [0x80]
    (u.a, u.f) = (0x00, 0xB0) := by
  decide

/-- R212. -/
theorem test_add_memHl :
    let u := after (State.placeByte { ram with a := 0x3C } 0xC100 0x12) [0x86]
    (u.a, u.f) = (0x4E, 0x00) := by
  decide

/-- R213. -/
theorem test_add_n :
    let u := after { ram with a := 0x3C } [0xC6, 0xFF]
    (u.a, u.f) = (0x3B, 0x30) := by
  decide

/-- R214. -/
theorem test_adc_e :
    let u := after { ram with a := 0xE1, e := 0x0F, f := 0x10 } [0x8B]
    (u.a, u.f) = (0xF1, 0x20) := by
  decide

/-- R215. -/
theorem test_adc_memHl :
    let u := after (State.placeByte { ram with a := 0xE1, f := 0x10 } 0xC100 0x1E) [0x8E]
    (u.a, u.f) = (0x00, 0xB0) := by
  decide

/-- R216. -/
theorem test_adc_n :
    let u := after { ram with a := 0xE1, f := 0x10 } [0xCE, 0x3B]
    (u.a, u.f) = (0x1D, 0x10) := by
  decide

/-- R217. -/
theorem test_sub_e :
    let u := after { ram with a := 0x3E, e := 0x3E } [0x93]
    (u.a, u.f) = (0x00, 0xC0) := by
  decide

/-- R218. -/
theorem test_sub_memHl :
    let u := after (State.placeByte { ram with a := 0x3E } 0xC100 0x40) [0x96]
    (u.a, u.f) = (0xFE, 0x50) := by
  decide

/-- R219. -/
theorem test_sub_n :
    let u := after { ram with a := 0x3E } [0xD6, 0x0F]
    (u.a, u.f) = (0x2F, 0x60) := by
  decide

/-- R220. -/
theorem test_sbc_h :
    let u := after { ram with a := 0x3B, h := 0x2A, f := 0x10 } [0x9C]
    (u.a, u.f) = (0x10, 0x40) := by
  decide

/-- R221. -/
theorem test_sbc_memHl :
    let u := after (State.placeByte { ram with a := 0x3B, f := 0x10 } 0xC100 0x4F) [0x9E]
    (u.a, u.f) = (0xEB, 0x70) := by
  decide

/-- R222. -/
theorem test_sbc_n :
    let u := after { ram with a := 0x3B, f := 0x10 } [0xDE, 0x3A]
    (u.a, u.f) = (0x00, 0xC0) := by
  decide

/-- R223. -/
theorem test_and_l :
    let u := after { ram with a := 0x5A, l := 0x3F } [0xA5]
    (u.a, u.f) = (0x1A, 0x20) := by
  decide

/-- R224. -/
theorem test_and_memHl :
    let u := after (State.placeByte { ram with a := 0x5A } 0xC100 0x00) [0xA6]
    (u.a, u.f) = (0x00, 0xA0) := by
  decide

/-- R225. -/
theorem test_and_n :
    let u := after { ram with a := 0x5A } [0xE6, 0x38]
    (u.a, u.f) = (0x18, 0x20) := by
  decide

/-- R226. -/
theorem test_xor_a :
    let u := after { ram with a := 0xFF } [0xAF]
    (u.a, u.f) = (0x00, 0x80) := by
  decide

/-- R227. -/
theorem test_xor_memHl :
    let u := after (State.placeByte { ram with a := 0xFF } 0xC100 0x8A) [0xAE]
    (u.a, u.f) = (0x75, 0x00) := by
  decide

/-- R228. -/
theorem test_xor_n :
    let u := after { ram with a := 0xFF } [0xEE, 0x0F]
    (u.a, u.f) = (0xF0, 0x00) := by
  decide

/-- R229. -/
theorem test_or_a :
    let u := after { ram with a := 0x5A } [0xB7]
    (u.a, u.f) = (0x5A, 0x00) := by
  decide

/-- R230. -/
theorem test_or_memHl :
    let u := after (State.placeByte { ram with a := 0x5A } 0xC100 0x0F) [0xB6]
    (u.a, u.f) = (0x5F, 0x00) := by
  decide

/-- R231. -/
theorem test_or_n :
    let u := after { ram with a := 0x5A } [0xF6, 0x03]
    (u.a, u.f) = (0x5B, 0x00) := by
  decide

/-- R232. -/
theorem test_cp_b :
    let u := after { ram with a := 0x3C, b := 0x2F } [0xB8]
    (u.a, u.f) = (0x3C, 0x60) := by
  decide

/-- R233. -/
theorem test_cp_memHl :
    let u := after (State.placeByte { ram with a := 0x3C } 0xC100 0x40) [0xBE]
    (u.a, u.f) = (0x3C, 0x50) := by
  decide

/-- R234. -/
theorem test_cp_n :
    let u := after { ram with a := 0x00 } [0xFE, 0x01]
    (u.a, u.f) = (0x00, 0x70) := by
  decide

/-- R235. -/
theorem test_inc_a :
    let u := after { ram with a := 0xFF, f := 0x10 } [0x3C]
    (u.a, u.f) = (0x00, 0xB0) := by
  decide

/-- R236. -/
theorem test_inc_memHl_echo :
    let u := after (State.placeByte { ram with f := 0x10 } 0xC100 0x50) [0x34]
    (u.readByte 0xC100, u.readByte 0xE100, u.f) = (0x51, 0x51, 0x10) := by
  decide

/-- R236, in the ROM window only the flags are written. -/
theorem test_inc_memHl_rom :
    let u := after { ram with h := 0x00, l := 0x00, f := 0xF0 } [0x34]
    (u.readByte 0x0000, u.f) = (0x00, 0x10) := by
  decide

/-- R237. -/
theorem test_dec_l :
    let u := after { ram with l := 0x01 } [0x2D]
    (u.l, u.f) = (0x00, 0xC0) := by
  decide

/-- R238. -/
theorem test_dec_memHl :
    let u := after (State.placeByte { ram with f := 0x10 } 0xC100 0x00) [0x35]
    (u.readByte 0xC100, u.f) = (0xFF, 0x70) := by
  decide

/-- R239. -/
theorem test_daa_add :
    let u := after { ram with a := 0x7D } [0x27]
    (u.a, u.f) = (0x83, 0x00) := by
  decide

/-- R239. -/
theorem test_daa_nonBcd :
    let u := after { ram with a := 0x9A } [0x27]
    (u.a, u.f) = (0x00, 0x90) := by
  decide

/-- R240. -/
theorem test_cpl :
    let u := after { ram with a := 0x35 } [0x2F]
    (u.a, u.f) = (0xCA, 0x60) := by
  decide

/-- R241. -/
theorem test_scf : (after { ram with f := 0x80 } [0x37]).f = 0x90 := by
  decide

/-- R242. -/
theorem test_ccf : (after { ram with f := 0xF0 } [0x3F]).f = 0x80 := by
  decide

/-- R260. -/
theorem test_inc_bc :
    let u := after { ram with b := 0x00, c := 0xFF } [0x03]
    (u.bc, u.f) = (0x0100, 0x00) := by
  decide

/-- R261. -/
theorem test_dec_de_wraps :
    let u := after { ram with d := 0x00, e := 0x00, f := 0x80 } [0x1B]
    (u.de, u.f) = (0xFFFF, 0x80) := by
  decide

/-- R262. -/
theorem test_add_hl_bc :
    let u := after { ram with h := 0x8A, l := 0x23, b := 0x06, c := 0x05 } [0x09]
    (u.hl, u.f) = (0x9028, 0x20) := by
  decide

/-- R263. -/
theorem test_add_sp_e :
    let u := after { ram with sp := 0xFFF8 } [0xE8, 0x02]
    (u.sp, u.f) = (0xFFFA, 0x00) := by
  decide

/-- R263. -/
theorem test_add_sp_e_negative :
    let u := after { ram with sp := 0x0000 } [0xE8, 0xFF]
    (u.sp, u.f) = (0xFFFF, 0x00) := by
  decide

/-- R275. -/
theorem test_rlca :
    let u := after { ram with a := 0x85 } [0x07]
    (u.a, u.f) = (0x0B, 0x10) := by
  decide

/-- R276. -/
theorem test_rrca :
    let u := after { ram with a := 0x3B } [0x0F]
    (u.a, u.f) = (0x9D, 0x10) := by
  decide

/-- R277. -/
theorem test_rla :
    let u := after { ram with a := 0x95, f := 0x10 } [0x17]
    (u.a, u.f) = (0x2B, 0x10) := by
  decide

/-- R278. -/
theorem test_rra :
    let u := after { ram with a := 0x81 } [0x1F]
    (u.a, u.f) = (0x40, 0x10) := by
  decide

/-- R280. -/
theorem test_rlc_b :
    let u := after { ram with b := 0x85 } [0xCB, 0x00]
    (u.b, u.f) = (0x0B, 0x10) := by
  decide

/-- R281. -/
theorem test_rlc_memHl :
    let u := after (State.placeByte ram 0xC100 0x00) [0xCB, 0x06]
    (u.readByte 0xC100, u.f) = (0x00, 0x80) := by
  decide

/-- R282. -/
theorem test_rrc_c :
    let u := after { ram with c := 0x01 } [0xCB, 0x09]
    (u.c, u.f) = (0x80, 0x10) := by
  decide

/-- R284. -/
theorem test_rl_l :
    let u := after { ram with l := 0x80 } [0xCB, 0x15]
    (u.l, u.f) = (0x00, 0x90) := by
  decide

/-- R285. -/
theorem test_rl_memHl :
    let u := after (State.placeByte ram 0xC100 0x11) [0xCB, 0x16]
    (u.readByte 0xC100, u.f) = (0x22, 0x00) := by
  decide

/-- R286. -/
theorem test_rr_a :
    let u := after { ram with a := 0x01 } [0xCB, 0x1F]
    (u.a, u.f) = (0x00, 0x90) := by
  decide

/-- R287. -/
theorem test_rr_memHl :
    let u := after (State.placeByte ram 0xC100 0x8A) [0xCB, 0x1E]
    (u.readByte 0xC100, u.f) = (0x45, 0x00) := by
  decide

/-- R288. -/
theorem test_sla_d :
    let u := after { ram with d := 0x80 } [0xCB, 0x22]
    (u.d, u.f) = (0x00, 0x90) := by
  decide

/-- R289. -/
theorem test_sla_memHl :
    let u := after (State.placeByte ram 0xC100 0xFF) [0xCB, 0x26]
    (u.readByte 0xC100, u.f) = (0xFE, 0x10) := by
  decide

/-- R290. -/
theorem test_sra_a :
    let u := after { ram with a := 0x8A } [0xCB, 0x2F]
    (u.a, u.f) = (0xC5, 0x00) := by
  decide

/-- R291. -/
theorem test_sra_memHl :
    let u := after (State.placeByte ram 0xC100 0x01) [0xCB, 0x2E]
    (u.readByte 0xC100, u.f) = (0x00, 0x90) := by
  decide

/-- R293. -/
theorem test_swap_memHl :
    let u := after (State.placeByte ram 0xC100 0xF0) [0xCB, 0x36]
    (u.readByte 0xC100, u.f) = (0x0F, 0x00) := by
  decide

/-- R294. -/
theorem test_srl_a :
    let u := after { ram with a := 0x01 } [0xCB, 0x3F]
    (u.a, u.f) = (0x00, 0x90) := by
  decide

/-- R295. -/
theorem test_srl_memHl :
    let u := after (State.placeByte ram 0xC100 0xFF) [0xCB, 0x3E]
    (u.readByte 0xC100, u.f) = (0x7F, 0x10) := by
  decide

/-- R300. -/
theorem test_bit7_h :
    let u := after { ram with h := 0x80 } [0xCB, 0x7C]
    (u.h, u.f) = (0x80, 0x20) := by
  decide

/-- R301. -/
theorem test_bit0_memHl : (after (State.placeByte { ram with f := 0x10 } 0xC100 0xFE) [0xCB, 0x46]).f = 0xB0 := by
  decide

/-- R302. -/
theorem test_res7_a :
    let u := after { ram with a := 0xFF } [0xCB, 0xBF]
    (u.a, u.f) = (0x7F, 0x00) := by
  decide

/-- R303. -/
theorem test_res0_memHl :
    let u := after (State.placeByte ram 0xC100 0x01) [0xCB, 0x86]
    (u.readByte 0xC100, u.readByte 0xE100) = (0x00, 0x00) := by
  decide

/-- R304. -/
theorem test_set7_a :
    let u := after { ram with a := 0x00 } [0xCB, 0xFF]
    (u.a, u.f) = (0x80, 0x00) := by
  decide

/-- R305. -/
theorem test_set3_memHl : (after (State.placeByte ram 0xC100 0x00) [0xCB, 0xDE]).readByte 0xC100 = 0x08 := by
  decide

/-- R311. -/
theorem test_jp_nn : (after ram [0xC3, 0x50, 0x01]).pc = 0x0150 := by
  decide

/-- R312. -/
theorem test_jp_z_taken : (after { ram with f := 0x80 } [0xCA, 0x00, 0x03]).pc = 0x0300 := by
  decide

/-- R312. -/
theorem test_jp_z_not_taken : (after ram [0xCA, 0x00, 0x03]).pc = 0xC003 := by
  decide

/-- R313. -/
theorem test_jp_hl : (after { ram with h := 0xC0, l := 0x10 } [0xE9]).pc = 0xC010 := by
  decide

/-- R314. -/
theorem test_jr_e : (after ram [0x18, 0x05]).pc = 0xC007 := by
  decide

/-- R314. -/
theorem test_jr_self : (after ram [0x18, 0xFE]).pc = 0xC000 := by
  decide

/-- R315. -/
theorem test_jr_nz_taken : (after ram [0x20, 0xFB]).pc = 0xBFFD := by
  decide

/-- R315. -/
theorem test_jr_nz_not_taken : (after { ram with f := 0x80 } [0x20, 0xFB]).pc = 0xC002 := by
  decide

/-- R316. -/
theorem test_call_nn :
    let u := after { ram with pc := 0xC150 } [0xCD, 0x00, 0x20]
    (u.readByte 0xFFFC, u.readByte 0xFFFD, u.sp, u.pc) = (0x53, 0xC1, 0xFFFC, 0x2000) := by
  decide

/-- R317. -/
theorem test_call_c_not_taken :
    let u := after { ram with pc := 0xC150 } [0xDC, 0x00, 0x20]
    (u.pc, u.sp) = (0xC153, 0xFFFE) := by
  decide

/-- R318. -/
theorem test_ret :
    let u := after (State.placeByte (State.placeByte { ram with sp := 0xFFFC } 0xFFFC 0x53) 0xFFFD 0x01) [0xC9]
    (u.pc, u.sp) = (0x0153, 0xFFFE) := by
  decide

/-- R319. -/
theorem test_ret_z :
    let u := after (State.placeByte (State.placeByte { ram with sp := 0xFFFC, f := 0x80 } 0xFFFC 0x53) 0xFFFD 0x01) [0xC8]
    (u.pc, u.sp) = (0x0153, 0xFFFE) := by
  decide

/-- R320. -/
theorem test_reti :
    let u := after (State.placeByte (State.placeByte { ram with sp := 0xFFFC } 0xFFFC 0x00) 0xFFFD 0xC1) [0xD9]
    (u.pc, u.sp, u.ime) = (0xC100, 0xFFFE, true) := by
  decide

/-- R321. -/
theorem test_rst28 :
    let u := after ram [0xEF]
    (u.readByte 0xFFFC, u.readByte 0xFFFD, u.sp, u.pc) = (0x01, 0xC0, 0xFFFC, 0x0028) := by
  decide

/-- R353: IE = IF = 0x05, IME = 1. -/
theorem test_service :
    let u := after (State.placeByte (State.placeByte { ram with ime := true } 0xFFFF 0x05) 0xFF0F 0x05) [0x00]
    (u.readByte 0xFF0F, u.pc, u.ime) = (0x00, 0xC001, true) := by
  decide

/-- R139: the wake does not depend on IME. -/
theorem test_halted_wakes :
    let u := after (State.placeByte (State.placeByte { ram with halted := true } 0xFFFF 0x01) 0xFF0F 0x01) [0x3C]
    (u.halted, u.pc, u.a) = (false, 0xC000, 0x01) := by
  decide

/-- R348: of two active sources whose hooks record a fault, the first raised is the step's. -/
theorem test_first_hook_fault :
    (match stepWith (fun n u => { u with fault := some (.unmodelled (BitVec.ofNat 8 n) 0x0000) })
        (State.placeByte (State.placeByte { ram with ime := true } 0xFFFF 0x05) 0xFF0F 0x05) with
      | .next t => t.fault
      | .fault _ => none
      | .refused _ => none) = some (.unmodelled 0x00 0x0000) := by
  decide

/-- R14, R69: a mirror address past 0xFFFF wraps or raises AddressRange, by ADDR_OVERFLOW. -/
theorem test_mirror_past_the_top :
    let wrapping : Config := { Config.defaults with params := { Params.defaults with echoBase := 0xF000 } }
    let u := after { ram with h := 0xD0, l := 0x80, a := 0x12, cfg := { wrapping with params := { wrapping.params with romWindowEnd := 0x007F } } } [0x77]
    let w := after { ram with h := 0xD0, l := 0x80, a := 0x12, cfg := { wrapping with addrOverflow := .fault } } [0x77]
    (u.readByte 0x0080, u.fault, w.fault) = (0x12, none, some (.addressRange 0x10080)) := by
  decide

/-- R31: the value returned is PC before the increment. -/
theorem test_advancePc :
    (match ram.advancePc with
      | .ok (old, t) => (old, t.pc)
      | .error _ => (0x0000, 0x0000)) = (0xC000, 0xC001) := by
  decide

/-- R7, R361: a scanline range other than the default's, with LY at another address. -/
theorem test_other_parameters :
    let u := after { ram with
      ppuLy := 1, cfg := { Config.defaults with params := { Params.defaults with ppuVblankFirst := 2, lyAddr := 0xD000 } } } [0x00]
    (u.ppuMode, u.readByte 0xD000, u.readByte 0xFF44) = (.vblank, 0x02, 0x00) := by
  decide

/-- R390 writes the entries of IO_DEFAULTS in turn. -/
theorem test_later_default_wins :
    (State.resetAt { Config.defaults with params := { Params.defaults with ioDefaults := [(0xFF10, 0x01), (0xFF10, 0x02)] } }).readByte
      0xFF10 = 0x02 := by
  decide

/-- R363: step 144 leaves LY = 144 in VBlank. -/
theorem test_ly_enters_vblank :
    let u := after { ram with ppuLy := 143 } [0x00]
    (u.readByte 0xFF44, u.ppuMode) = (0x90, .vblank) := by
  decide

/-- R364: LY goes from 153 to 0. -/
theorem test_ly_wraps :
    let u := after { ram with ppuLy := 153, ppuMode := .vblank } [0x00]
    (u.readByte 0xFF44, u.ppuMode, u.ppuLy) = (0x00, .oamRead, 0) := by
  decide

/-- R365. -/
theorem test_oam_ends :
    let u := after { ram with ppuSub := 199, ppuMode := .oamRead } [0x00]
    (u.ppuMode, u.ppuSub) = (.oamVramRead, 0) := by
  decide

/-- R346. -/
theorem test_rom_write_fault : (after { ram with h := 0x7F, l := 0xFF, a := 0x12, cfg := { Config.defaults with romWrite := .fault } } [0x77]).fault = some (.romWrite 0x7FFF 0x12) := by
  decide

/-- R341, the PC increment past 0xFFFF. -/
theorem test_address_range : (after { ram with pc := 0xFFFF, cfg := { Config.defaults with addrOverflow := .fault } } [0x00]).fault = some (.addressRange 0x10000) := by
  decide

/-- R343: no other identifier names a register. -/
theorem test_unknown_register : regOfName "IX" = .error (.unknownRegister "IX") := by
  decide

/-- R345: a short image is refused. -/
theorem test_short_image :
    (match hostLoad [0x00] (State.beforeLoad Config.defaults) with
      | .refused r => some r
      | .next _ => none
      | .fault _ => none) = some (Refusal.cartridgeFormat (.shortImage 1)) := by
  decide

/-- R403: the ROM buffer is written before the first reset only. -/
theorem test_load_after_reset :
    (match hostLoad [0x00] State.reset with
      | .refused r => some r
      | .next _ => none
      | .fault _ => none) = some Refusal.loadAfterReset := by
  decide

/-- R394, R403: after the load and the reset the cartridge is fixed and the reset state holds. -/
theorem test_reset_after_load :
    (match hostReset { State.beforeLoad Config.defaults with launch := .loaded, pc := 0x0000, sp := 0x0000 } with
      | .next t => some (t.launch, t.pc, t.sp)
      | .fault _ => none
      | .refused _ => none) = some (Launch.reset, 0x0100, 0xFFFE) := by
  decide

/-- A row's word put where reset fetches runs there: LD A,0x42. -/
theorem test_withFetchWord :
    (match step (State.reset.withFetchWord 16 0x423E) with
      | .next t => (t.a, t.pc)
      | .fault _ => (0x00, 0x0000)
      | .refused _ => (0x00, 0x0000)) = (0x42, 0x0102) := by
  decide


/-! Witnesses: for each statement with hypotheses, states and operands that meet them. -/

/-- The strict policies: address arithmetic and stores into the ROM window fault. -/
def strict : Config := { Config.defaults with addrOverflow := .fault, romWrite := .fault }

/-- `LD A,0x42` at PC. -/
def loaded : State := ram.placeBytes 0xC000 [0x3E, 0x42]

/-- PC at the last address. -/
def top : State := { ram with pc := 0xFFFF }

/-- An interrupt source active. -/
def requested : State := (State.placeByte ram 0xFFFF 0x01).placeByte 0xFF0F 0x01

/-- `next` for instructions of one, two and three bytes: in RAM, wrapping at the top, and at the last address that does not
wrap under the strict policy. -/
theorem witness_next :
    (ram.Next 1 0xC001 ∧ ram.Next 2 0xC002 ∧ ram.Next 3 0xC003) ∧
    (top.Next 1 0x0000 ∧ top.Next 2 0x0001 ∧ top.Next 3 0x0002) ∧
    State.Next { ram with pc := 0xFFFC, cfg := strict } 3 0xFFFF ∧
    State.OutOfRange { top with cfg := strict } (0xFFFF + 1) := by
  decide

/-- The echo region at the top of the address space, its last 0xE00 bytes beyond it. -/
def overlong : Config := { strict with params := { Params.defaults with echoBase := 0xF000 } }

/-- The cases of a store: the last byte of the ROM window faults under the strict policy and not otherwise; the first byte
after it never does; under the strict policy a mirror address past 0xFFFF does, and the one before it does not. -/
theorem witness_storeFault :
    State.storeFault { ram with cfg := strict } 0x7FFF 0x12 = some (.romWrite 0x7FFF 0x12) ∧ ram.storeFault 0x7FFF 0x12 = none ∧
      State.storeFault { ram with cfg := strict } 0x8000 0x12 = none ∧
      State.storeFault { ram with cfg := overlong } 0xD000 0x12 = some (.addressRange 0x10000) ∧
      State.storeFault { ram with cfg := overlong } 0xCFFF 0x12 = none ∧
      State.storeFault { ram with cfg := { overlong with addrOverflow := .wrap } } 0xD000 0x12 = none := by
  decide

theorem witness_ResetGivesResetValues :
    (∃ s : State, s = { ram with bankMode := some "ROM" } ∧ s.fault = none ∧ s.launch ≠ .unloaded ∧ s.bankMode ≠ none ∧
        s.cfg.params = defaultParams) ∧
      ({ ram with fault := some (.unmodelled 0x10 0xC000) } : State).fault = some (.unmodelled 0x10 0xC000) :=
  ⟨⟨_, rfl, by decide⟩, by decide⟩

theorem witness_CartridgeLoadRefusesOrRecords :
    (State.beforeLoad Config.defaults).launch ≠ .reset ∧ State.reset.launch = .reset ∧
      (State.beforeLoad Config.defaults).fault = none ∧ (State.beforeLoad Config.defaults).launch = .unloaded ∧
      State.reset.fault = none ∧ State.reset.launch ≠ .unloaded ∧ State.reset.bankMode = none ∧
      ([0x00] : List Byte).length < 0x8000 ∧ 0x8000 ≤ (List.replicate 0x8000 (0x00 : Byte)).length := by
  rw [List.length_replicate]
  decide

theorem witness_GenericAccessorsKnowFourteenNames :
    "IX" ∉ ["A", "B", "C", "D", "E", "H", "L", "F", "SP", "PC", "AF", "BC", "DE", "HL"] ∧
      (top.Addr (0xFFFF + 1) 0x0000 ∧ State.OutOfRange { top with cfg := strict } (0xFFFF + 1)) ∧
      (State.Addr { ram with pc := 0x0000 } (0x0000 - 1) 0xFFFF ∧
        State.OutOfRange { ram with pc := 0x0000, cfg := strict } (0x0000 - 1)) := by
  decide

/-- Both sides of the window bound, and both policies. -/
theorem witness_ByteAccessMirrorsAndSparesRom :
    ram.InRom 0x7FFF ∧ ¬ram.InRom 0x8000 ∧ ({ ram with cfg := strict } : State).cfg.romWrite = .fault ∧
      State.InRom { ram with cfg := strict } 0x7FFF ∧ ram.cfg.romWrite = .ignore ∧ ram.cfg.addrOverflow = .wrap ∧
      strict.params.Legal := by
  decide

/-- The stored word is 0x1212, so both of its bytes are 0x12. -/
theorem witness_ShortAccessIsTwoByteAccesses :
    ram.Addr (0xFFFF + 1) 0x0000 ∧ ram.storeFault 0xFFFF 0x12 = none ∧ ram.storeFault 0x0000 0x12 = none ∧
      State.storeFault { ram with cfg := strict } 0x7FFF 0x12 = some (.romWrite 0x7FFF 0x12) ∧
      (State.storeFault { ram with cfg := { Config.defaults with romWrite := .fault } } 0xFFFF 0x12 = none ∧
        State.storeFault { ram with cfg := { Config.defaults with romWrite := .fault } } 0x0000 0x12 = some (.romWrite 0x0000 0x12)) ∧
      (State.OutOfRange { ram with cfg := strict } (0xFFFF + 1) ∧ State.storeFault { ram with cfg := strict } 0xFFFF 0x12 = none) := by
  decide

theorem witness_MemoryStaysCanonical :
    ram.MemoryCanonical ∧ (∃ t, ram.writeByte 0xC000 0x01 = .ok t) ∧ (∃ t, ram.writeShort .little 0xFFFF 0x1234 = .ok t) ∧
      (∃ t, ram.push16 0x1234 = .ok t) ∧ ∃ t, hostReset ram = .next t :=
  ⟨⟨rfl, rfl⟩, ⟨_, rfl⟩, ⟨_, rfl⟩, ⟨_, rfl⟩, ⟨_, rfl⟩⟩

theorem witness_DecodeOfEncodeIsIdentity :
    (Instr.ldBcNn 0xFFFF).wellFormed = true ∧ (∀ sub, Instr.ldBcNn 0xFFFF ≠ .prefixCb sub) ∧
      (Instr.prefixCb 0xFF).wellFormed = true :=
  ⟨rfl, fun _ h => Instr.noConfusion h, rfl⟩

theorem witness_EncodeOfDecodeIsIdentity : decode [0xC3, 0x50, 0x01, 0x00] = .ok (.jpNn 0x0150, [0x00]) := by decide

theorem witness_UnassignedOpcodesRaiseUnmapped :
    (0xD3 : Byte) ∈ unassigned ∧ (0xFD : Byte) ∈ unassigned ∧ decode [0xFD] = .ok (.illegal 0xFD, []) ∧
      (State.placeByte ram 0xC000 0xD3).fault = none ∧ (State.placeByte ram 0xC000 0xD3).halted = false ∧
      (State.placeByte ram 0xC000 0xD3).readByte 0xC000 ∈ unassigned ∧ (State.placeByte ram 0xC000 0xD3).Next 1 0xC001 := by
  decide

theorem witness_FirstByteGivesLength :
    (0xCB ∈ twoByteOpcodes ∧ decode [0xCB, 0xFF] = .ok (.set7A, [])) ∧
      (0xFA ∈ threeByteOpcodes ∧ decode [0xFA, 0x00, 0x00] = .ok (.ldAMemNn 0x0000, [])) ∧
      (0x00 ∉ twoByteOpcodes ∧ 0x00 ∉ threeByteOpcodes ∧ decode [0x00] = .ok (.nop, [])) := by
  decide

/-- The bytes of `loaded` stand at its PC. -/
theorem loaded_bytesAtPc : loaded.BytesAtPc [0x3E, 0x42] := by
  intro k v h
  match k, h with
  | 0, h =>
    cases h
    exact ⟨0xC000, by decide, by decide⟩
  | 1, h =>
    cases h
    exact ⟨0xC001, by decide, by decide⟩

/-- The instruction completes. -/
theorem witness_StepRunsDecoded :
    loaded.fault = none ∧ loaded.halted = false ∧ decode [0x3E, 0x42] = .ok (.ldAN 0x42, []) ∧
      loaded.BytesAtPc [0x3E, 0x42] ∧ loaded.Implements [0x3E, 0x42] ∧ (∃ w, loaded.Next 1 w) ∧
      ∃ t, exec (.ldAN 0x42) loaded = .next t ∧ t.fault = none :=
  ⟨rfl, rfl, rfl, loaded_bytesAtPc, ⟨fun _ _ => .inr List.not_mem_nil, fun _ _ _ => List.not_mem_nil⟩, ⟨0xC001, by decide⟩, _, rfl, rfl⟩

/-- STOP at PC. -/
def stopping : State := ram.placeBytes 0xC000 [0x10, 0x00]

/-- The instruction raises a fault. -/
theorem witness_StepRunsDecoded_fault :
    decode [0x10, 0x00] = .ok (.stop 0x00, []) ∧ stopping.readByte 0xC000 = 0x10 ∧ stopping.readByte 0xC001 = 0x00 ∧
      ∃ t, exec (.stop 0x00) stopping = .next t ∧ t.fault = some (.unmodelled 0x10 0xC000) :=
  ⟨rfl, by decide, by decide, _, rfl, rfl⟩

/-- IMPLEMENTED without 0x3E and without the pair 0xCB 0x37. -/
def partly : Config := { Config.defaults with unimplemented := [0x00, 0x3E], unimplementedCb := [0x37] }

theorem witness_OutsideImplementedRaisesUnmapped :
    (({ loaded with cfg := partly } : State).readByte 0xC000 ∈ partly.unimplemented ∧
      ({ loaded with cfg := partly } : State).readByte 0xC000 ≠ 0x00 ∧ State.Next { loaded with cfg := partly } 1 0xC001) ∧
    (({ ram.placeBytes 0xC000 [0xCB, 0x37] with cfg := partly } : State).readByte 0xC000 = 0xCB ∧
      0xCB ∉ partly.unimplemented ∧
      ({ ram.placeBytes 0xC000 [0xCB, 0x37] with cfg := partly } : State).readByte 0xC001 ∈ partly.unimplementedCb) ∧
    ({ ram with cfg := partly } : State).readByte 0xC000 = 0x00 := by
  decide

theorem witness_AddressRangeAtFetch :
    State.OutOfRange { top with cfg := strict } (0xFFFF + 1) ∧
      (State.Next { ram with pc := 0xFFFE, cfg := strict } 1 0xFFFF ∧
        State.OutOfRange { ram with pc := 0xFFFE, cfg := strict } (0xFFFE + 2) ∧
        (State.placeByte { ram with pc := 0xFFFE, cfg := strict } 0xFFFE 0xC3).readByte 0xFFFE ∈ threeByteOpcodes ∧
        0xC3 ∉ strict.unimplemented) := by
  decide

theorem witness_FaultIsPrecise :
    ∃ t, stepWith intHook stopping = .next t ∧ t.fault = some (.unmodelled 0x10 0xC000) :=
  ⟨_, rfl, rfl⟩

theorem witness_EveryUnfaultedStateSteps :
    ram.fault = none ∧ ({ ram with fault := some (.unmodelled 0x10 0xC000) } : State).fault = some (.unmodelled 0x10 0xC000) := by
  decide

theorem witness_HaltHaltsCompletesOrRaises :
    active ram = 0 ∧ active requested ≠ 0 ∧ ({ requested with ime := true } : State).ime = true ∧ requested.ime = false ∧
      requested.Next 1 0xC001 := by
  decide

theorem witness_HaltedStepFetchesNothing :
    ({ ram with halted := true } : State).fault = none ∧ active { ram with halted := true } = 0 ∧
      ({ requested with halted := true } : State).fault = none ∧ active { requested with halted := true } ≠ 0 := by
  decide

theorem witness_StopFollowsPolicy :
    ram.cfg.stopPolicy = .refuse ∧
      ({ ram with cfg := { Config.defaults with stopPolicy := .nop } } : State).cfg.stopPolicy = .nop ∧
      State.Next { ram with cfg := { Config.defaults with stopPolicy := .nop } } 2 0xC002 := by
  decide

theorem witness_DiEiAndCommitWriteIme :
    ram.Next 1 0xC001 ∧ ram.cfg.eiDelay = .one ∧
      ({ ram with cfg := { Config.defaults with eiDelay := .zero } } : State).cfg.eiDelay = .zero ∧
      State.Next { ram with cfg := { Config.defaults with eiDelay := .zero } } 1 0xC001 ∧
      ({ ram with eiPending := true } : State).eiPending = true ∧ ram.eiPending = false := by
  decide

theorem witness_PrefixCbRunsSubOpcode :
    (top.Next 2 0x0001 ∧ ∀ v, top.storeFault top.hl v = none) ∧
      (({ ram.placeBytes 0xC000 [0xCB, 0x37] with cfg := partly } : State).fault = none ∧
        State.Next { ram.placeBytes 0xC000 [0xCB, 0x37] with cfg := partly } 1 0xC001 ∧
        ({ ram.placeBytes 0xC000 [0xCB, 0x37] with cfg := partly } : State).readByte 0xC000 = 0xCB ∧
        ({ ram.placeBytes 0xC000 [0xCB, 0x37] with cfg := partly } : State).readByte 0xC001 ∈ partly.unimplementedCb) :=
  ⟨⟨by decide, fun _ => rfl⟩, by decide⟩

/-- The high page from end to end, above the ROM window. -/
theorem witness_highPage :
    (ram.cfg.params.romWindowEnd.toNat < 0xFF00 ∧ ¬ram.cfg.params.Echoed (0xFF00 : Word).toNat) ∧
    (0xFF00 : Word).toNat = 0xFF00 + (0x00 : Byte).toNat ∧ (0xFFFF : Word).toNat = 0xFF00 + (0xFF : Byte).toNat ∧
      (0xFF13 : Word).toNat = 0xFF00 + ram.c.toNat := by
  decide

theorem witness_HlUpdateFormsMoveHl :
    (0x0000 : Word).toNat = ((0xFFFF : Word).toNat + 1) % 65536 ∧ (0xFFFF : Word).toNat = ((0x0000 : Word).toNat + 65535) % 65536 ∧
      (0xC101 : Word).toNat = (ram.hl.toNat + 1) % 65536 ∧ (0xC0FF : Word).toNat = (ram.hl.toNat + 65535) % 65536 := by
  decide

/-- Every case of a push: it completes, also where SP wraps; SP - 2 out of range; the first byte in the ROM window; the second
byte's address out of range; the second byte in the ROM window. The pushed word is 0x1212. -/
theorem witness_push :
    (ram.Addr (0xFFFE - 2) 0xFFFC ∧ ram.Addr (0xFFFC + 1) 0xFFFD ∧ ram.storeFault 0xFFFC 0x12 = none ∧ ram.storeFault 0xFFFD 0x12 = none) ∧
    (State.Addr { ram with sp := 0x0001 } (0x0001 - 2) 0xFFFF ∧ State.Addr { ram with sp := 0x0001 } (0xFFFF + 1) 0x0000) ∧
    State.OutOfRange { ram with sp := 0x0001, cfg := strict } (0x0001 - 2) ∧
    (State.Addr { ram with sp := 0x8001, cfg := strict } (0x8001 - 2) 0x7FFF ∧
      State.storeFault { ram with sp := 0x8001, cfg := strict } 0x7FFF 0x12 = some (.romWrite 0x7FFF 0x12)) ∧
    (State.OutOfRange { ram with cfg := strict } (0xFFFF + 1) ∧ State.storeFault { ram with cfg := strict } 0xFFFF 0x12 = none) ∧
    (State.storeFault { ram with sp := 0x0001, cfg := { Config.defaults with romWrite := .fault } } 0xFFFF 0x12 = none ∧
      State.storeFault { ram with sp := 0x0001, cfg := { Config.defaults with romWrite := .fault } } 0x0000 0x12 = some (.romWrite 0x0000 0x12)) := by
  decide

/-- Every case of a pop: it completes, also where SP wraps; the high byte's address out of range; SP + 2 out of range. -/
theorem witness_pop :
    (State.Addr { ram with sp := 0xFFFC } (0xFFFC + 1) 0xFFFD ∧ State.Addr { ram with sp := 0xFFFC } (0xFFFC + 2) 0xFFFE) ∧
    (State.Addr { ram with sp := 0xFFFF } (0xFFFF + 1) 0x0000 ∧ State.Addr { ram with sp := 0xFFFF } (0xFFFF + 2) 0x0001) ∧
    State.OutOfRange { ram with sp := 0xFFFF, cfg := strict } (0xFFFF + 1) ∧
    (State.Addr { ram with sp := 0xFFFE, cfg := strict } (0xFFFE + 1) 0xFFFF ∧
      State.OutOfRange { ram with sp := 0xFFFE, cfg := strict } (0xFFFE + 2)) ∧
    StackPair.hl ≠ .af := by
  decide

theorem witness_DaaAdjustsByFlags : bitN 0x00 = false ∧ bitN 0xF0 = true := by decide

theorem witness_AccumulatorRotatesClearZ :
    ShiftOp.rlc.code = (0 : Fin 4).val ∧ ShiftOp.rrc.code = (1 : Fin 4).val ∧ ShiftOp.rl.code = (2 : Fin 4).val ∧
      ShiftOp.rr.code = (3 : Fin 4).val := by
  decide

/-- Each condition holds of some F and fails of some. -/
theorem witness_conditions :
    (Holds .nz 0x00 ∧ Holds .z 0x80 ∧ Holds .nc 0x00 ∧ Holds .c 0x10) ∧
      ¬Holds .nz 0x80 ∧ ¬Holds .z 0x00 ∧ ¬Holds .nc 0x10 ∧ ¬Holds .c 0x00 :=
  ⟨⟨rfl, rfl, rfl, rfl⟩, (fun h => Bool.noConfusion h), (fun h => Bool.noConfusion h), (fun h => Bool.noConfusion h),
    fun h => Bool.noConfusion h⟩

/-- A relative target in range, one that wraps, and one out of range. -/
theorem witness_RelativeJumpsFromNext :
    (ram.Next 2 0xC002 ∧ ram.Addr (0xC002 + sint 0x80) 0xBF82) ∧
    (State.Next { ram with pc := 0xFFF0 } 2 0xFFF2 ∧ State.Addr { ram with pc := 0xFFF0 } (0xFFF2 + sint 0x7F) 0x0071) ∧
    (State.Next { ram with pc := 0xFFF0, cfg := strict } 2 0xFFF2 ∧
      State.OutOfRange { ram with pc := 0xFFF0, cfg := strict } (0xFFF2 + sint 0x7F)) := by
  decide

/-- A condition and `next`, taken and not taken, with the stack of a call and of a return in place. -/
theorem witness_conditional :
    (Holds .z 0x80 ∧ State.Next { ram with f := 0x80 } 3 0xC003 ∧ State.Addr { ram with f := 0x80 } (0xFFFE - 2) 0xFFFC ∧
      State.Addr { ram with f := 0x80 } (0xFFFC + 1) 0xFFFD ∧ State.storeFault { ram with f := 0x80 } 0xFFFC 0x12 = none ∧
      State.storeFault { ram with f := 0x80 } 0xFFFD 0x12 = none) ∧
    (¬Holds .z 0x00 ∧ ram.Next 1 0xC001 ∧ ram.Next 2 0xC002 ∧ ram.Next 3 0xC003) ∧
    (Holds .nc 0x80 ∧ State.Addr { ram with f := 0x80 } (0xFFFE + 1) 0xFFFF ∧
      State.Addr { ram with f := 0x80 } (0xFFFE + 2) 0x0000) ∧
    (Holds .nz 0x00 ∧ ram.Next 2 0xC002 ∧ ram.Addr (0xC002 + sint 0xFB) 0xBFFD) :=
  ⟨⟨rfl, by decide⟩, ⟨fun h => Bool.noConfusion h, by decide⟩, ⟨rfl, by decide⟩, rfl, by decide⟩

/-- An interrupt source active with IME = 1. -/
def serving : State := { requested with ime := true }

/-- IF in the ROM window, where a store faults, with a source active. -/
def unstorable : State :=
  { serving with
    rom := [(0x7F00, 0x01)],
    cfg := { strict with params := { Params.defaults with ifAddr := 0x7F00 } } }

/-- A source not active, one active, one whose store faults, a hook that records no fault and one that does. -/
theorem witness_ControllerServicesActiveAscending :
    ram.ime = false ∧ serving.ime = true ∧ (active serving).toNat.testBit 4 = false ∧
      ((active serving).toNat.testBit 0 = true ∧ serving.storeFault serving.cfg.params.ifAddr (byte (without (pendingByte serving) 0)) = none) ∧
      ((active unstorable).toNat.testBit 0 = true ∧
        unstorable.storeFault unstorable.cfg.params.ifAddr (byte (without (pendingByte unstorable) 0)) = some (.romWrite 0x7F00 0x00)) ∧
      (intHook 0 serving).fault = none ∧
      ((fun (_ : Nat) (u : State) => u.takeFault (.unmodelled 0x00 0x0000)) 0 serving).fault = some (.unmodelled 0x00 0x0000) := by
  decide

/-- The phases after the CPU phase complete, and the controller raises a fault. -/
theorem witness_Finishes :
    (∃ u, icPhase intHook (committed false serving) = .ok u) ∧
      icPhase intHook (committed false unstorable) = .error (.romWrite 0x7F00 0x00) :=
  ⟨⟨_, rfl⟩, rfl⟩

theorem witness_IdentityHookClearsActiveBits :
    (serving.fault = none ∧ serving.ime = true ∧ active serving ≠ 0) ∧
      (∀ v, serving.storeFault serving.cfg.params.ifAddr v = none) ∧
      ({ ram with ime := true } : State).ime = true ∧ active { ram with ime := true } = 0 :=
  ⟨by decide, fun _ => rfl, rfl, by decide⟩

theorem witness_PpuTransitionsByMode :
    ram.ppuMode = .hblank ∧
    (152 + 1 ≠ ram.cfg.params.ppuVblankLast + 1 ∧ 153 + 1 = ram.cfg.params.ppuVblankLast + 1 ∧
      ({ ram with ppuMode := .vblank, ppuLy := 153 } : State).ppuMode = .vblank) ∧
    (198 + 1 ≠ ram.cfg.params.ppuOamSteps ∧ 199 + 1 = ram.cfg.params.ppuOamSteps ∧
      ({ ram with ppuMode := .oamRead, ppuSub := 199 } : State).ppuMode = .oamRead) ∧
    (198 + 1 ≠ ram.cfg.params.ppuVramSteps ∧ 199 + 1 = ram.cfg.params.ppuVramSteps ∧
      ({ ram with ppuMode := .oamVramRead, ppuSub := 199 } : State).ppuMode = .oamVramRead) ∧
    ¬ram.InRom ram.cfg.params.lyAddr ∧ ¬ram.cfg.params.Echoed ram.cfg.params.lyAddr.toNat := by
  decide

/-- A direct store that is a `MemWrite`. -/
theorem witness_PpuTransitionsByMode_stored : ram.PokedByte (ram.pokeByte ram.cfg.params.lyAddr 0x90) ram.cfg.params.lyAddr 0x90 :=
  State.pokeByte_poked _ _

/-- The ranges of the cycle at their ends. -/
theorem witness_PpuCycleOf554 :
    State.reset.cfg.params = defaultParams ∧ State.reset.ppuMode = .hblank ∧ State.reset.ppuLy = 0 ∧ State.reset.ppuSub = 0 ∧
      143 % 554 < 144 ∧ (144 ≤ 144 % 554 ∧ 153 % 554 < 154) ∧ (154 ≤ 154 % 554 ∧ 353 % 554 < 354) ∧ 354 ≤ 354 % 554 ∧
      354 ≤ 553 % 554 ∧ 554 % 554 < 144 := by
  decide

/-- The reset state has a step. -/
theorem witness_StepKeepsCartridge : ∃ t, step State.reset = .next t := ⟨_, rfl⟩

theorem witness_OnlyNamedInstructionsWriteControlState :
    (∃ t, exec .ei ram = .next t ∧ t.eiPending ≠ ram.eiPending) ∧ (∃ t, exec .halt ram = .next t ∧ t.halted ≠ ram.halted) ∧
      ∃ t, exec .di { ram with ime := true } = .next t ∧ t.ime ≠ true :=
  ⟨⟨_, rfl, by decide⟩, ⟨_, rfl, by decide⟩, ⟨_, rfl, by decide⟩⟩

/-- The defaults of R7 are legal parameters. -/
theorem defaults_legal : Params.defaults.Legal := by decide

/-- The invariant and a step from it. -/
theorem witness_StepKeepsInvariant : ram.Inv ∧ ∃ t, step ram = .next t := by
  refine ⟨⟨defaults_legal, ⟨rfl, rfl⟩, rfl, fun k hk => ?_, ⟨by decide, rfl⟩, fun h => by cases h⟩, ⟨_, rfl⟩⟩
  have hk : k < 0x1E00 := hk
  have h1 : ((0xC000 : Word) + BitVec.ofNat 16 k).toNat < 0xFF00 := by
    simp
    omega
  have h2 : ((0xE000 : Word) + BitVec.ofNat 16 k).toNat < 0xFF00 := by
    simp
    omega
  exact (State.readByte_reset_below _ h1).trans (State.readByte_reset_below _ h2).symm

/-- Instructions of one, two and three bytes that complete elsewhere, at the addresses where `next` is out of range, and a
condition that fails. -/
theorem witness_PcAdvanceByLength_outOfRange :
    (∃ t, exec .nop { ram with pc := 0xC000, cfg := strict } = .next t ∧ t.fault = none) ∧
      State.OutOfRange { ram with pc := 0xFFFF, cfg := strict } (0xFFFF + 1) ∧
      State.OutOfRange { ram with pc := 0xFFFE, cfg := strict } (0xFFFE + 2) ∧
      State.OutOfRange { ram with pc := 0xFFFD, cfg := strict } (0xFFFD + 3) ∧ ¬Holds .z 0x00 :=
  ⟨⟨_, rfl, rfl⟩, by decide, by decide, by decide, fun h => Bool.noConfusion h⟩

theorem witness_PcAdvanceByLength :
    ¬PcMutating .nop ∧ ram.fault = none ∧ ∃ t, exec .nop ram = .next t ∧ t.fault = none := by
  refine ⟨?_, rfl, _, rfl, rfl⟩
  rintro (⟨_, h⟩ | ⟨k, _, h⟩ | h | ⟨_, h⟩ | ⟨k, _, h⟩ | ⟨_, h⟩ | ⟨k, _, h⟩ | h | ⟨k, h⟩ | h | ⟨t, h⟩)
  · cases h
  · cases k <;> cases h
  · cases h
  · cases h
  · cases k <;> cases h
  · cases h
  · cases k <;> cases h
  · cases h
  · cases k <;> cases h
  · cases h
  · revert h
    revert t
    decide

end Sys2Proof.Tests
end

section
/-! PROOFS. Flags in plain arithmetic, register pairs and the generic accessors (10_state.md sections 2 and 3). -/

namespace Sys2Proof.Machine

open Sys2Proof.Spec

/-! Flags. -/

/-- Bit `j` of a byte whose bit `i` was replaced. -/
theorem getLsbD_setBit (f : Byte) (v : Bool) {i : Nat} (hi : i < 8) (j : Nat) :
    (setBit f i v).getLsbD j = if j = i then v else f.getLsbD j := by
  have hbit : ((1 : Byte) <<< i).getLsbD j = decide (j = i) := by
    rw [show (1 : Byte) <<< i = BitVec.twoPow 8 i from (BitVec.twoPow_eq 8 i).symm, BitVec.getLsbD_twoPow]
    simp [hi, eq_comm]
  have hones : (0xFF : Byte).getLsbD j = decide (j < 8) := BitVec.getLsbD_allOnes
  unfold setBit
  cases v
  · simp only [Bool.false_eq_true, if_false, BitVec.getLsbD_and, BitVec.getLsbD_xor, hbit, hones]
    by_cases h8 : j < 8
    · by_cases hj : j = i <;> simp [hj, h8, hi]
    · simp [BitVec.getLsbD_of_ge f j (by omega)]
  · simp only [if_true, BitVec.getLsbD_or, hbit]
    by_cases hj : j = i <;> simp [hj]

/-- A decrement modulo `2 ^ w`, as the statements write it. -/
theorem toNat_sub_one {w : Nat} (v : BitVec w) (hw : 0 < w) : (v - 1#w).toNat = (v.toNat + (2 ^ w - 1)) % 2 ^ w := by
  rw [BitVec.toNat_sub, BitVec.toNat_one hw, Nat.add_comm]

/-- The low nibble of a byte, as a number. -/
theorem toNat_and_0F (v : Byte) : (v &&& 0x0F).toNat = v.toNat % 16 := by
  rw [BitVec.toNat_and]
  exact Nat.and_two_pow_sub_one_eq_mod v.toNat 4

/-- Replacing a flag leaves bits 3..0 as they were. -/
theorem setBit_and_0F (f : Byte) (v : Bool) {i : Nat} (h4 : 4 ≤ i) (h8 : i < 8) : setBit f i v &&& 0x0F = f &&& 0x0F := by
  refine BitVec.eq_of_getLsbD_eq fun j _ => ?_
  have hlow : (0x0F : Byte).getLsbD j = decide (j < 4) := Nat.testBit_two_pow_sub_one 4 j
  rw [BitVec.getLsbD_and, BitVec.getLsbD_and, getLsbD_setBit f v h8, hlow]
  by_cases hj : j = i
  · simp [hj, show ¬i < 4 by omega]
  · rw [if_neg hj]

/-- `flags(z, n, h, c)` has bits 3..0 zero (00_scope.md R16). -/
theorem mkFlags_and_0F (z n h c : Bool) : mkFlags z n h c &&& 0x0F = 0 := by
  revert z n h c
  decide

theorem setZ_and_0F (f : Byte) (v : Bool) : setZ f v &&& 0x0F = f &&& 0x0F := setBit_and_0F f v (by decide) (by decide)
theorem setN_and_0F (f : Byte) (v : Bool) : setN f v &&& 0x0F = f &&& 0x0F := setBit_and_0F f v (by decide) (by decide)
theorem setH_and_0F (f : Byte) (v : Bool) : setH f v &&& 0x0F = f &&& 0x0F := setBit_and_0F f v (by decide) (by decide)
theorem setC_and_0F (f : Byte) (v : Bool) : setC f v &&& 0x0F = f &&& 0x0F := setBit_and_0F f v (by decide) (by decide)

/-- A byte is its four flags and its low nibble (10_state.md R26). -/
theorem flagsAre_self (f : Byte) : FlagsAre f (flagZ f) (flagN f) (flagH f) (flagC f) (lowNibble f) := by
  have hz : (flagZ f).toNat = f.toNat / 128 % 2 := Nat.toNat_testBit f.toNat 7
  have hn : (flagN f).toNat = f.toNat / 64 % 2 := Nat.toNat_testBit f.toNat 6
  have hh : (flagH f).toNat = f.toNat / 32 % 2 := Nat.toNat_testBit f.toNat 5
  have hc : (flagC f).toNat = f.toNat / 16 % 2 := Nat.toNat_testBit f.toNat 4
  have := f.isLt
  unfold FlagsAre lowNibble
  omega

theorem flagC_eq_bitC (f : Byte) : flagC f = bitC f := by
  have h : flagC f = decide (f.toNat / 16 % 2 = 1) := Nat.testBit_eq_decide_div_mod_eq
  rw [h, bitC, beq_eq_decide]

/-- The flags that `Inc8` and `Dec8` write: Z, N and H as given, Cy and the low nibble kept. -/
theorem flagsAre_setHNZ (f : Byte) (z n h : Bool) :
    FlagsAre (setH (setN (setZ f z) n) h) z n h (bitC f) (lowNibble f) := by
  have hlow : lowNibble (setH (setN (setZ f z) n) h) = lowNibble f := by
    simp only [lowNibble, ← toNat_and_0F, setH_and_0F, setN_and_0F, setZ_and_0F]
  have hself := flagsAre_self (setH (setN (setZ f z) n) h)
  rw [hlow] at hself
  simpa only [flagZ, flagN, flagH, flagC, setZ, setN, setH, getLsbD_setBit, Nat.reduceLT, Nat.reduceEqDiff, reduceIte,
    ← flagC_eq_bitC] using hself

/-- The zero flag's condition on the number. -/
theorem zf_eq_decide (v : Byte) : zf v = decide (v.toNat = 0) := by
  rw [zf, beq_eq_decide]
  exact decide_eq_decide.2 BitVec.toNat_inj.symm

/-- The half-carry conditions of `Inc8` and `Dec8` on the number. -/
theorem lowNibble_beq (v : Byte) {k : Nat} (hk : k < 16) :
    ((v &&& 0x0F) == BitVec.ofNat 8 k) = decide (v.toNat % 16 = k) := by
  rw [beq_eq_decide, decide_eq_decide, ← BitVec.toNat_inj, toNat_and_0F, BitVec.toNat_ofNat,
    Nat.mod_eq_of_lt (show k < 2 ^ 8 by omega)]

theorem inc8_incs (v f : Byte) : Incs v f (inc8 v f).1 (inc8 v f).2 := by
  refine ⟨BitVec.toNat_add v 1, ?_⟩
  rw [← zf_eq_decide, ← lowNibble_beq v (by decide)]
  exact flagsAre_setHNZ f _ _ _

theorem dec8_decs (v f : Byte) : Decs v f (dec8 v f).1 (dec8 v f).2 := by
  refine ⟨toNat_sub_one v (by decide), ?_⟩
  rw [← zf_eq_decide, ← lowNibble_beq v (by decide)]
  exact flagsAre_setHNZ f _ _ _

/-! Register pairs. -/

theorem zext16_toNat (b : Byte) : (Bits.zext16 b).toNat = b.toNat := BitVec.toNat_setWidth_of_le (by decide)

theorem lo_toNat (v : Word) : (Bits.lo v).toNat = v.toNat % 256 := by
  rw [lo_eq, BitVec.toNat_ofNat]
  exact Nat.mod_mod _ _

@[simp] theorem join_hi_lo (v : Word) : Bits.join (Bits.hi v) (Bits.lo v) = v := by
  apply BitVec.eq_of_toNat_eq
  have := v.isLt
  rw [join_toNat, hi_eq, lo_toNat, BitVec.toNat_ofNat]
  omega

@[simp] theorem State.pair_setPair_self (s : State) (p : Pair) (v : Word) : (s.setPair p v).pair p = v := by
  cases p with
  | sp => rfl
  | bc | de | hl => exact join_hi_lo v

@[simp] theorem State.stackPair_setStackPair_self (s : State) (q : StackPair) (v : Word) :
    (s.setStackPair q v).stackPair q = v := by
  cases q <;> exact join_hi_lo v

/-! The generic accessors. -/

theorem regOfName_unknown {name : String}
    (h : name ∉ ["A", "B", "C", "D", "E", "H", "L", "F", "SP", "PC", "AF", "BC", "DE", "HL"]) :
    regOfName name = .error (.unknownRegister name) := by
  have hnone : regIds.lookup name = none := by
    rw [List.lookup_eq_none_iff]
    intro entry hentry
    have hname : entry.1 ∈ regIds.map Prod.fst := List.mem_map_of_mem hentry
    exact bne_iff_ne.2 fun heq => h (heq ▸ hname)
  rw [regOfName, hnone]

theorem State.advancePc_ok {s : State} {w : Word} (h : s.Addr (s.pc.toNat + 1) w) :
    s.advancePc = .ok (s.pc, { s with pc := w }) := by
  have ha : s.addrAdd s.pc 1 = .ok w := State.addr16_ok h
  simp [State.advancePc, ha, bind, Except.bind]

theorem State.advancePc_error {s : State} (h : s.OutOfRange (s.pc.toNat + 1)) :
    s.advancePc = .error (.addressRange (s.pc.toNat + 1)) := by
  have ha : s.addrAdd s.pc 1 = .error (.addressRange (s.pc.toNat + 1)) := State.addr16_error h
  simp [State.advancePc, ha, bind, Except.bind]

theorem State.retractPc_ok {s : State} {w : Word} (h : s.Addr ((s.pc.toNat : Int) - 1) w) :
    s.retractPc = .ok { s with pc := w } := by
  have ha : s.addrAdd s.pc (-1) = .ok w := State.addr16_ok h
  simp [State.retractPc, ha, bind, Except.bind]

theorem State.retractPc_error {s : State} (h : s.OutOfRange ((s.pc.toNat : Int) - 1)) :
    s.retractPc = .error (.addressRange ((s.pc.toNat : Int) - 1)) := by
  have ha : s.addrAdd s.pc (-1) = .error (.addressRange ((s.pc.toNat : Int) - 1)) := State.addr16_error h
  simp [State.retractPc, ha, bind, Except.bind]

end Sys2Proof.Machine
end

section
/-! PROOFS. The echo invariant under a store and a direct store, and the invariant at reset (20_memory.md R65, R66). -/

namespace Sys2Proof.Machine

open Sys2Proof.Spec

/-! The echo. -/

theorem Params.defaults_legal : Params.defaults.Legal := by decide

theorem wramAddr_toNat {p : Params} {k : Nat} (hl : p.Legal) (hk : k < p.echoLen) :
    (p.wramBase + BitVec.ofNat 16 k).toNat = p.wramBase.toNat + k := by
  obtain ⟨-, hlen, hram, htop, -⟩ := hl
  rw [BitVec.toNat_add, BitVec.toNat_ofNat]
  omega

theorem echoAddr_toNat {p : Params} {k : Nat} (hl : p.Legal) (hk : k < p.echoLen) :
    (p.echoBase + BitVec.ofNat 16 k).toNat = p.echoBase.toNat + k := by
  obtain ⟨-, -, -, htop, -⟩ := hl
  rw [BitVec.toNat_add, BitVec.toNat_ofNat]
  omega

/-- The bytes that the echo invariant compares lie in the mirrored ranges. -/
theorem wramAddr_echoed {p : Params} {k : Nat} (hl : p.Legal) (hk : k < p.echoLen) :
    p.Echoed (p.wramBase + BitVec.ofNat 16 k).toNat ∧ p.Echoed (p.echoBase + BitVec.ofNat 16 k).toNat := by
  rw [wramAddr_toNat hl hk, echoAddr_toNat hl hk]
  exact ⟨.inl (by omega), .inr (by omega)⟩

/-- A store shows at a byte of the mirrored RAM exactly where it shows at that byte's echo. -/
theorem State.shows_wram_iff_echo {s : State} {k : Nat} (hl : s.cfg.params.Legal) (hk : k < s.cfg.params.echoLen) (a : Word) :
    s.Shows a (s.cfg.params.wramBase + BitVec.ofNat 16 k) ↔ s.Shows a (s.cfg.params.echoBase + BitVec.ofNat 16 k) := by
  have hw := wramAddr_toNat hl hk
  have he := echoAddr_toNat hl hk
  obtain ⟨hrom, hlen, hram, htop, -⟩ := hl
  simp only [State.Shows, State.InRom, Params.Mirrors, ← BitVec.toNat_inj, hw, he]
  constructor
  · rintro ⟨ha, -, h | ⟨h1, h2, h⟩ | ⟨h1, h2, h⟩⟩
    · exact ⟨ha, by omega, .inr (.inl ⟨by omega, by omega, by omega⟩)⟩
    · rw [Nat.mod_eq_of_lt (by omega)] at h
      omega
    · rw [Nat.mod_eq_of_lt (by omega)] at h
      exact ⟨ha, by omega, .inl (by omega)⟩
  · rintro ⟨ha, -, h | ⟨h1, h2, h⟩ | ⟨h1, h2, h⟩⟩
    · exact ⟨ha, by omega, .inr (.inr ⟨by omega, by omega, by omega⟩)⟩
    · rw [Nat.mod_eq_of_lt (by omega)] at h
      exact ⟨ha, by omega, .inl (by omega)⟩
    · rw [Nat.mod_eq_of_lt (by omega)] at h
      omega

theorem State.StoredByte.echoMirrored {s t : State} {a : Word} {v : Byte} (hs : s.StoredByte t a v)
    (hl : s.cfg.params.Legal) (he : s.EchoMirrored) : t.EchoMirrored := by
  have hcfg := hs.cfg
  obtain ⟨_, _, hread⟩ := hs
  intro k hk
  rw [hcfg] at hk ⊢
  have hiff := State.shows_wram_iff_echo hl hk a
  by_cases h : s.Shows a (s.cfg.params.wramBase + BitVec.ofNat 16 k)
  · rw [(hread _).1 h, (hread _).1 (hiff.1 h)]
  · rw [(hread _).2 h, (hread _).2 (hiff.not.1 h), he k hk]

theorem State.PokedByte.echoMirrored {s t : State} {a : Word} {v : Byte} (hs : s.PokedByte t a v)
    (hl : s.cfg.params.Legal) (ha : ¬s.cfg.params.Echoed a.toNat) (he : s.EchoMirrored) : t.EchoMirrored := by
  obtain ⟨honly, hread⟩ := hs
  have hcfg : t.cfg = s.cfg := by rw [honly]
  intro k hk
  rw [hcfg] at hk ⊢
  obtain ⟨hw, hh⟩ := wramAddr_echoed hl hk
  have hne : ∀ x : Word, s.cfg.params.Echoed x.toNat → t.readByte x = s.readByte x := by
    intro x hx
    rw [hread, if_neg]
    rintro ⟨rfl, _⟩
    exact ha hx
  rw [hne _ hw, hne _ hh, he k hk]

/-! Reset. -/

theorem State.resetAt_readByte_echoed {cfg : Config} (hl : cfg.params.Legal) {x : Word} (hx : cfg.params.Echoed x.toNat) :
    (State.resetAt cfg).readByte x = 0 := by
  obtain ⟨-, -, -, -, -, hio, -⟩ := hl
  unfold State.readByte
  split
  · rfl
  · exact memDefault_unnamed fun entry hentry heq => hio entry hentry (heq ▸ hx)

/-- The reset state meets the invariant at any legal parameters. -/
theorem State.resetAt_inv {cfg : Config} (hl : cfg.params.Legal) : (State.resetAt cfg).Inv := by
  have hparts := hl
  obtain ⟨-, -, -, -, -, -, hfirst, -, -, -, -, hflags⟩ := hparts
  refine ⟨hl, ⟨rfl, rfl⟩, hflags, fun k (hk : k < cfg.params.echoLen) => ?_, ⟨hfirst, rfl⟩, fun _ => rfl⟩
  obtain ⟨hw, he⟩ := wramAddr_echoed hl hk
  exact (State.resetAt_readByte_echoed hl hw).trans (State.resetAt_readByte_echoed hl he).symm

end Sys2Proof.Machine
end

section
/-! PROOFS. What every instruction may change, said once: each shared handler, then the instructions by handler. -/

namespace Sys2Proof.Machine

open Sys2Proof.Spec

variable {s t u : State}

/-! What a handler answers. -/

/-- The answer is a next state, and `P` holds of it. -/
def Answers (P : State → Prop) (r : Out) : Prop := ∃ t, r = .next t ∧ P t

/-- `P` holds of what a computation returns, if it raises nothing. -/
def Yields {α : Type} (P : α → Prop) (r : Except Fault α) : Prop := ∀ t, r = .ok t → P t

theorem Answers.mono {P Q : State → Prop} {r : Out} (h : Answers P r) (hPQ : ∀ t, P t → Q t) : Answers Q r := by
  obtain ⟨t, ht, hP⟩ := h
  exact ⟨t, ht, hPQ t hP⟩

theorem Answers.of_next {P : State → Prop} {r : Out} (h : Answers P r) (hr : r = .next t) : P t := by
  obtain ⟨u, hu, hP⟩ := h
  rw [hu] at hr
  cases hr
  exact hP

section Yields

variable {α β : Type} {P Q : α → Prop}

theorem Yields.ok {x : α} (h : P x) : Yields P (.ok x) := by
  intro y hy
  cases hy
  exact h

theorem Yields.error (P : α → Prop) (f : Fault) : Yields P (.error f) := fun _ h => nomatch h

/-- Computations in sequence: the second one's result, for every value of the first. -/
theorem Yields.bind {x : Except Fault β} {f : β → Except Fault α} (h : ∀ b, x = .ok b → Yields P (f b)) :
    Yields P (x >>= f) := by
  cases x with
  | ok b => exact h b rfl
  | error e => exact .error P e

theorem Yields.mono {r : Except Fault α} (h : Yields P r) (hPQ : ∀ x, P x → Q x) : Yields Q r :=
  fun x hx => hPQ x (h x hx)

theorem Yields.ite {c : Prop} [Decidable c] {x y : Except Fault α} (hx : Yields P x) (hy : Yields P y) :
    Yields P (if c then x else y) := by
  split
  · exact hx
  · exact hy

end Yields

/-- The end of a PC-mutating instruction: its handler's state or a recorded fault (40_engine.md R136). -/
theorem State.complete_answers {P : State → Prop} {r : Except Fault State} (hf : ∀ f, P (s.takeFault f))
    (h : Yields P r) : Answers P (s.complete r) := by
  cases r with
  | ok t => exact ⟨t, rfl, h t rfl⟩
  | error f => exact ⟨_, rfl, hf f⟩

/-- The end of any other instruction: its handler's state with PC moved, or a recorded fault (40_engine.md R135). -/
theorem State.retire_answers {P : State → Prop} {r : Except Fault State} (len : Nat) (hf : ∀ f, P (s.takeFault f))
    (hpc : ∀ t w, P t → P { t with pc := w }) (h : Yields P r) : Answers P (s.retire len r) :=
  State.complete_answers hf <| .bind fun t ht => .bind fun _ _ => .ok (hpc t _ (h t ht))

/-! What the CPU phase may change. -/

/-- What any part of a step before the PPU may do: it writes neither the PPU's state nor what is fixed for a run, and it keeps
each clause of the invariant. -/
structure State.CpuStep (s t : State) : Prop where
  frame : t = { s with
    a := t.a, f := t.f, b := t.b, c := t.c, d := t.d, e := t.e, h := t.h, l := t.l, sp := t.sp, pc := t.pc, mem := t.mem
    ime := t.ime, eiPending := t.eiPending, halted := t.halted, fault := t.fault }
  canonical : s.MemoryCanonical → t.MemoryCanonical
  flags : s.FlagNibbleZero → t.FlagNibbleZero
  echo : s.cfg.params.Legal → s.EchoMirrored → t.EchoMirrored
  ei : s.EiPendingAllowed → t.EiPendingAllowed

/-- What an instruction other than DI, EI, RETI and HALT may do: it writes registers and memory only. -/
structure State.DataStep (s t : State) : Prop extends State.CpuStep s t where
  ime : t.ime = s.ime
  eiPending : t.eiPending = s.eiPending
  halted : t.halted = s.halted

theorem State.CpuStep.cfg (h : s.CpuStep t) : t.cfg = s.cfg := by rw [h.frame]
theorem State.CpuStep.ppuMode (h : s.CpuStep t) : t.ppuMode = s.ppuMode := by rw [h.frame]
theorem State.CpuStep.ppuLy (h : s.CpuStep t) : t.ppuLy = s.ppuLy := by rw [h.frame]
theorem State.CpuStep.ppuSub (h : s.CpuStep t) : t.ppuSub = s.ppuSub := by rw [h.frame]

theorem State.CpuStep.trans (h : s.CpuStep t) (h' : t.CpuStep u) : s.CpuStep u where
  frame := by rw [h'.frame, h.frame]
  canonical := h'.canonical ∘ h.canonical
  flags := h'.flags ∘ h.flags
  echo hl := h'.echo (h.cfg ▸ hl) ∘ h.echo hl
  ei := h'.ei ∘ h.ei

theorem State.DataStep.trans (h : s.DataStep t) (h' : t.DataStep u) : s.DataStep u where
  toCpuStep := h.toCpuStep.trans h'.toCpuStep
  ime := h'.ime.trans h.ime
  eiPending := h'.eiPending.trans h.eiPending
  halted := h'.halted.trans h.halted

/-- An update of the control state that leaves memory and F alone. -/
theorem State.cpuStep_control
    (h : t = { s with ime := t.ime, eiPending := t.eiPending, halted := t.halted })
    (hei : s.EiPendingAllowed → t.EiPendingAllowed) : s.CpuStep t where
  frame := by rw [h]
  canonical hs := by rw [h]; exact hs
  flags hs := by rw [h]; exact hs
  echo _ hs := by rw [h]; exact hs
  ei := hei

/-- An update of registers and the recorded fault that leaves memory alone. -/
theorem State.dataStep_registers
    (h : t = { s with
      a := t.a, f := t.f, b := t.b, c := t.c, d := t.d, e := t.e, h := t.h, l := t.l, sp := t.sp, pc := t.pc, fault := t.fault })
    (hf : s.FlagNibbleZero → t.FlagNibbleZero) : s.DataStep t where
  frame := by rw [h]
  canonical hs := by rw [h]; exact hs
  flags := hf
  echo _ hs := by rw [h]; exact hs
  ei hs := by rw [h]; exact hs
  ime := by rw [h]
  eiPending := by rw [h]
  halted := by rw [h]

theorem State.DataStep.refl (s : State) : s.DataStep s := State.dataStep_registers rfl id

theorem State.takeFault_dataStep (s : State) (f : Fault) : s.DataStep (s.takeFault f) := State.dataStep_registers rfl id

theorem State.setPc_dataStep (s : State) (w : Word) : s.DataStep { s with pc := w } := State.dataStep_registers rfl id

/-- An instruction that ends through `complete`. -/
theorem State.complete_dataStep {r : Except Fault State} (h : Yields s.DataStep r) : Answers s.DataStep (s.complete r) :=
  State.complete_answers s.takeFault_dataStep h

/-- An instruction that ends through `retire`. -/
theorem State.retire_dataStep {len : Nat} {r : Except Fault State} (h : Yields s.DataStep r) :
    Answers s.DataStep (s.retire len r) :=
  State.retire_answers len s.takeFault_dataStep (fun t w ht => ht.trans (t.setPc_dataStep w)) h

/-! Registers. -/

/-- A write of F that keeps its low nibble at zero. -/
theorem State.setF_dataStep {fl : Byte} (h : s.FlagNibbleZero → fl &&& 0x0F = 0) : s.DataStep { s with f := fl } :=
  State.dataStep_registers rfl h

theorem State.DataStep.setF {fl : Byte} (h : s.DataStep t) (hf : t.FlagNibbleZero → fl &&& 0x0F = 0) :
    s.DataStep { t with f := fl } :=
  h.trans (State.setF_dataStep hf)

theorem State.setAF_dataStep {x fl : Byte} (h : s.FlagNibbleZero → fl &&& 0x0F = 0) : s.DataStep { s with a := x, f := fl } :=
  State.dataStep_registers rfl h

theorem State.setR8_dataStep (s : State) (r : R8) (v : Byte) : s.DataStep (s.setR8 r v) :=
  State.dataStep_registers (by cases r <;> rfl) (by simp [State.FlagNibbleZero])

theorem State.setPair_dataStep (s : State) (p : Pair) (v : Word) : s.DataStep (s.setPair p v) :=
  State.dataStep_registers (by cases p <;> rfl) (by simp [State.FlagNibbleZero])

theorem lo_and_FFF0_and_0F (v : Word) : Bits.lo (v &&& 0xFFF0) &&& 0x0F = 0 := by
  have hmask : Bits.lo 0xFFF0 &&& 0x0F = 0 := by decide
  rw [Bits.lo, BitVec.extractLsb'_and, BitVec.and_assoc]
  exact (congrArg (Bits.lo v &&& ·) hmask).trans BitVec.and_zero

/-- A pop into a pair; F takes no low bits (42_load16.md R197). -/
theorem State.popInto_dataStep (s : State) (q : StackPair) (v : Word) : s.DataStep (s.setStackPair q (popValue q v)) := by
  cases q with
  | af => exact State.setAF_dataStep fun _ => lo_and_FFF0_and_0F v
  | bc => exact s.setPair_dataStep .bc v
  | de => exact s.setPair_dataStep .de v
  | hl => exact s.setPair_dataStep .hl v

theorem alu_and_0F (k : AluOp) (a v f : Byte) : (alu k a v f).2 &&& 0x0F = 0 := by
  cases k <;> exact mkFlags_and_0F _ _ _ _

theorem daa8_and_0F (a f : Byte) : (daa8 a f).2 &&& 0x0F = 0 := by
  unfold daa8
  split <;> exact mkFlags_and_0F _ _ _ _

theorem inc8_and_0F (v f : Byte) : (inc8 v f).2 &&& 0x0F = f &&& 0x0F := by
  simp only [inc8, setH_and_0F, setN_and_0F, setZ_and_0F]

theorem dec8_and_0F (v f : Byte) : (dec8 v f).2 &&& 0x0F = f &&& 0x0F := by
  simp only [dec8, setH_and_0F, setN_and_0F, setZ_and_0F]

theorem bitFlags_and_0F (v : Byte) (b : Fin 8) (f : Byte) : bitFlags v b f &&& 0x0F = f &&& 0x0F := by
  simp only [bitFlags, setH_and_0F, setN_and_0F, setZ_and_0F]

theorem addHl16_and_0F (x v : Word) (f : Byte) : (addHl16 x v f).2 &&& 0x0F = f &&& 0x0F := by
  simp only [addHl16, setC_and_0F, setH_and_0F, setN_and_0F]

theorem cplFlags_and_0F (f : Byte) : setH (setN f true) true &&& 0x0F = f &&& 0x0F := by
  simp only [setH_and_0F, setN_and_0F]

theorem carryFlags_and_0F (f : Byte) (c : Bool) : setC (setH (setN f false) false) c &&& 0x0F = f &&& 0x0F := by
  simp only [setC_and_0F, setH_and_0F, setN_and_0F]

theorem State.applyAlu_dataStep (s : State) (k : AluOp) (v : Byte) : s.DataStep (s.applyAlu k v) :=
  State.setAF_dataStep fun _ => alu_and_0F k s.a v s.f

theorem State.loadA_dataStep (s : State) (a : Word) : s.DataStep (s.loadA a) := State.dataStep_registers rfl id

/-! Memory and the stack. -/

/-- A change of memory alone that keeps its form and the echo. -/
theorem State.MemoryStep.dataStep (h : s.MemoryStep t)
    (hecho : s.cfg.params.Legal → s.EchoMirrored → t.EchoMirrored) : s.DataStep t where
  frame := by rw [h.only]
  canonical := h.canonical
  flags hs := by rw [h.only]; exact hs
  echo := hecho
  ei hs := by rw [h.only]; exact hs
  ime := by rw [h.only]
  eiPending := by rw [h.only]
  halted := by rw [h.only]

theorem State.writeByte_dataStep (s : State) (a : Word) (v : Byte) : Yields s.DataStep (s.writeByte a v) := by
  intro t ht
  rcases s.writeByte_cases a v with ⟨_, _, he⟩ | ⟨_, u, hu, hstep, hstored⟩
  · rw [he] at ht
    cases ht
  · rw [hu] at ht
    cases ht
    exact hstep.dataStep hstored.echoMirrored

/-- A store made after a step of the same instruction. -/
theorem State.DataStep.writeByte (h : s.DataStep t) (a : Word) (v : Byte) : Yields s.DataStep (t.writeByte a v) :=
  (t.writeByte_dataStep a v).mono fun _ => h.trans

theorem State.DataStep.writeShort (h : s.DataStep t) (o : ByteOrder) (a v : Word) : Yields s.DataStep (t.writeShort o a v) :=
  .bind fun m hm => .bind fun _ _ => State.DataStep.writeByte (h.writeByte _ _ m hm) _ _

theorem State.push16_dataStep (s : State) (v : Word) : Yields s.DataStep (s.push16 v) :=
  .bind fun sp _ => State.DataStep.writeShort (t := { s with sp := sp }) (State.dataStep_registers rfl id) _ _ _

/-- A pop moves SP only. -/
theorem State.pop16_dataStep (s : State) : Yields (fun r => s.DataStep r.2) s.pop16 :=
  .bind fun _ _ => .bind fun _ _ => .ok (State.dataStep_registers rfl id)

/-! Control. -/

theorem State.skip_dataStep (s : State) (len : Nat) : Yields s.DataStep (s.skip len) :=
  .bind fun _ _ => .ok (s.setPc_dataStep _)

theorem State.jumpRelative_dataStep (s : State) (e : Byte) : Yields s.DataStep (s.jumpRelative e) :=
  .bind fun _ _ => .bind fun _ _ => .ok (s.setPc_dataStep _)

theorem State.call_dataStep (s : State) (len : Nat) (target : Word) : Yields s.DataStep (s.call len target) :=
  .bind fun _ _ => .bind fun t ht => .ok ((s.push16_dataStep _ t ht).trans (State.setPc_dataStep _ _))

theorem State.returnFrom_dataStep (s : State) : Yields s.DataStep s.returnFrom :=
  .bind fun _ h => .ok ((s.pop16_dataStep _ h).trans (State.setPc_dataStep _ _))

/-! Instructions. -/

/-- An instruction whose handler only updates registers. -/
theorem State.DataStep.retire {len : Nat} (h : s.DataStep t) : Answers s.DataStep (s.retire len (.ok t)) :=
  State.retire_dataStep (.ok h)

theorem incReg_dataStep (r : R8) (s : State) : Answers s.DataStep (incReg r s) :=
  ((State.setF_dataStep (inc8_and_0F _ _).trans).trans (State.setR8_dataStep _ r _)).retire

theorem decReg_dataStep (r : R8) (s : State) : Answers s.DataStep (decReg r s) :=
  ((State.setF_dataStep (dec8_and_0F _ _).trans).trans (State.setR8_dataStep _ r _)).retire

theorem addHlPair_dataStep (p : Pair) (s : State) : Answers s.DataStep (addHlPair p s) :=
  ((s.setPair_dataStep .hl _).setF (addHl16_and_0F _ _ _).trans).retire

theorem shiftReg_dataStep (k : ShiftOp) (r : R8) (s : State) : Answers s.DataStep (shiftReg k r s) :=
  ((s.setR8_dataStep r _).setF fun _ => mkFlags_and_0F _ _ _ _).retire

theorem shiftMemHl_dataStep (k : ShiftOp) (s : State) : Answers s.DataStep (shiftMemHl k s) :=
  State.retire_dataStep <| .bind fun t ht => .ok ((s.writeByte_dataStep _ _ t ht).setF fun _ => mkFlags_and_0F _ _ _ _)

theorem bitReg_dataStep (b : Fin 8) (r : R8) (s : State) : Answers s.DataStep (bitReg b r s) :=
  (State.setF_dataStep (bitFlags_and_0F _ _ _).trans).retire

theorem bitMemHl_dataStep (b : Fin 8) (s : State) : Answers s.DataStep (bitMemHl b s) :=
  (State.setF_dataStep (bitFlags_and_0F _ _ _).trans).retire

theorem popPair_dataStep (q : StackPair) (s : State) : Answers s.DataStep (popPair q s) :=
  State.retire_dataStep <| .bind fun r hr => .ok ((s.pop16_dataStep r hr).trans (State.popInto_dataStep _ q _))

theorem State.stopByPolicy_dataStep (s : State) : Yields s.DataStep s.stopByPolicy := by
  unfold State.stopByPolicy
  split
  · exact .error _ _
  · exact .ok (.refl s)

theorem State.requestEnable_cpuStep (s : State) : s.CpuStep s.requestEnable ∧ s.requestEnable.halted = s.halted := by
  unfold State.requestEnable
  split
  · exact ⟨State.cpuStep_control rfl id, rfl⟩
  · rename_i hone
    have hallowed : State.EiPendingAllowed { s with eiPending := true } := fun hzero =>
      absurd (hone.symm.trans hzero) (by decide)
    exact ⟨State.cpuStep_control rfl fun _ => hallowed, rfl⟩

theorem State.haltOrRefuse_cpuStep (s : State) :
    Yields (fun t => s.CpuStep t ∧ t.ime = s.ime ∧ t.eiPending = s.eiPending) s.haltOrRefuse :=
  .ite (.ok ⟨State.cpuStep_control rfl id, rfl, rfl⟩) (.ite (.ok ⟨State.cpuStep_control rfl id, rfl, rfl⟩) (.error _ _))

/-- Each of the eight forms that a sub-opcode selects is a data step. -/
theorem execSubOpcode_dataStep (sub : Byte) (s : State) : Answers s.DataStep (execSubOpcode sub s) := by
  unfold execSubOpcode
  split
  · exact shiftReg_dataStep _ _ s
  · exact shiftMemHl_dataStep _ s
  · exact bitReg_dataStep _ _ s
  · exact bitMemHl_dataStep _ s
  · exact (s.setR8_dataStep _ _).retire
  · exact State.retire_dataStep (s.writeByte_dataStep _ _)
  · exact (s.setR8_dataStep _ _).retire
  · exact State.retire_dataStep (s.writeByte_dataStep _ _)

/-- Every instruction but DI, EI, RETI and HALT writes registers and memory only, and keeps the invariant. The cases are
grouped by what the handler writes. -/
theorem exec_dataStep {i : Instr} (hint : ¬(i = .di ∨ i = .ei ∨ i = .reti)) (hhalt : i ≠ .halt) (s : State) :
    Answers s.DataStep (exec i s) := by
  cases i with
  | di => exact absurd (.inl rfl) hint
  | ei => exact absurd (.inr (.inl rfl)) hint
  | reti => exact absurd (.inr (.inr rfl)) hint
  | halt => exact absurd rfl hhalt
  | nop => exact (State.DataStep.refl s).retire
  | stop => exact State.retire_dataStep s.stopByPolicy_dataStep
  | illegal => exact State.complete_dataStep (.error _ _)
  | prefixCb sub => exact execSubOpcode_dataStep sub s
  | ldBB | ldBC | ldBD | ldBE | ldBH | ldBL | ldBA | ldCB | ldCC | ldCD | ldCE | ldCH | ldCL | ldCA | ldDB | ldDC | ldDD
  | ldDE | ldDH | ldDL | ldDA | ldEB | ldEC | ldED | ldEE | ldEH | ldEL | ldEA | ldHB | ldHC | ldHD | ldHE | ldHH | ldHL
  | ldHA | ldLB | ldLC | ldLD | ldLE | ldLH | ldLL | ldLA | ldAB | ldAC | ldAD | ldAE | ldAH | ldAL | ldAA | ldBN | ldCN
  | ldDN | ldEN | ldHN | ldLN | ldAN | ldBMemHl | ldCMemHl | ldDMemHl | ldEMemHl | ldHMemHl | ldLMemHl | ldAMemHl
  | res0B | res0C | res0D | res0E | res0H | res0L | res0A | res1B | res1C | res1D | res1E | res1H | res1L | res1A
  | res2B | res2C | res2D | res2E | res2H | res2L | res2A | res3B | res3C | res3D | res3E | res3H | res3L | res3A
  | res4B | res4C | res4D | res4E | res4H | res4L | res4A | res5B | res5C | res5D | res5E | res5H | res5L | res5A
  | res6B | res6C | res6D | res6E | res6H | res6L | res6A | res7B | res7C | res7D | res7E | res7H | res7L | res7A
  | set0B | set0C | set0D | set0E | set0H | set0L | set0A | set1B | set1C | set1D | set1E | set1H | set1L | set1A
  | set2B | set2C | set2D | set2E | set2H | set2L | set2A | set3B | set3C | set3D | set3E | set3H | set3L | set3A
  | set4B | set4C | set4D | set4E | set4H | set4L | set4A | set5B | set5C | set5D | set5E | set5H | set5L | set5A
  | set6B | set6C | set6D | set6E | set6H | set6L | set6A | set7B | set7C | set7D | set7E | set7H | set7L | set7A =>
    exact (s.setR8_dataStep _ _).retire
  | ldMemHlB | ldMemHlC | ldMemHlD | ldMemHlE | ldMemHlH | ldMemHlL | ldMemHlA | res0MemHl | res1MemHl | res2MemHl
  | res3MemHl | res4MemHl | res5MemHl | res6MemHl | res7MemHl | set0MemHl | set1MemHl | set2MemHl | set3MemHl
  | set4MemHl | set5MemHl | set6MemHl | set7MemHl | ldMemBcA | ldMemDeA | ldMemHlN | ldhMemNA | ldMemCA | ldMemNnA =>
    exact State.retire_dataStep (s.writeByte_dataStep _ _)
  | ldAMemBc | ldAMemDe | ldhAMemN | ldAMemC | ldAMemNn =>
    exact (s.loadA_dataStep _).retire
  | ldAMemHlInc | ldAMemHlDec =>
    exact ((s.loadA_dataStep _).trans (State.setPair_dataStep _ .hl _)).retire
  | ldMemHlIncA | ldMemHlDecA =>
    exact State.retire_dataStep <| .bind fun t ht => .ok ((s.writeByte_dataStep _ _ t ht).trans (t.setPair_dataStep .hl _))
  | ldBcNn | ldDeNn | ldHlNn | ldSpNn | incBc | incDe | incHl | incSp | decBc | decDe | decHl | decSp | ldSpHl =>
    exact (s.setPair_dataStep _ _).retire
  | ldMemNnSp => exact State.retire_dataStep ((State.DataStep.refl s).writeShort _ _ _)
  | ldHlSpE => exact ((s.setPair_dataStep .hl _).setF fun _ => mkFlags_and_0F _ _ _ _).retire
  | pushBc | pushDe | pushHl | pushAf =>
    exact State.retire_dataStep (s.push16_dataStep _)
  | popBc | popDe | popHl | popAf =>
    exact popPair_dataStep _ s
  | addAB | addAC | addAD | addAE | addAH | addAL | addAA | adcAB | adcAC | adcAD | adcAE | adcAH | adcAL | adcAA | subB
  | subC | subD | subE | subH | subL | subA | sbcAB | sbcAC | sbcAD | sbcAE | sbcAH | sbcAL | sbcAA | andB | andC | andD
  | andE | andH | andL | andA | xorB | xorC | xorD | xorE | xorH | xorL | xorA | orB | orC | orD | orE | orH | orL | orA
  | cpB | cpC | cpD | cpE | cpH | cpL | cpA | addAMemHl | adcAMemHl | subMemHl | sbcAMemHl | andMemHl | xorMemHl
  | orMemHl | cpMemHl | addAN | adcAN | subN | sbcAN | andN | xorN | orN | cpN =>
    exact (s.applyAlu_dataStep _ _).retire
  | incB | incC | incD | incE | incH | incL | incA =>
    exact incReg_dataStep _ s
  | decB | decC | decD | decE | decH | decL | decA =>
    exact decReg_dataStep _ s
  | incMemHl => exact State.retire_dataStep ((State.setF_dataStep (inc8_and_0F _ _).trans).writeByte _ _)
  | decMemHl => exact State.retire_dataStep ((State.setF_dataStep (dec8_and_0F _ _).trans).writeByte _ _)
  | daa => exact (State.setAF_dataStep fun _ => daa8_and_0F _ _).retire
  | cpl => exact (State.setAF_dataStep (cplFlags_and_0F _).trans).retire
  | scf | ccf =>
    exact (State.setF_dataStep (carryFlags_and_0F _ _).trans).retire
  | addHlBc | addHlDe | addHlHl | addHlSp =>
    exact addHlPair_dataStep _ s
  | addSpE => exact (State.dataStep_registers rfl fun _ => mkFlags_and_0F _ _ _ _).retire
  | rlca | rrca | rla | rra =>
    exact (State.setAF_dataStep fun _ => mkFlags_and_0F _ _ _ _).retire
  | rlcB | rlcC | rlcD | rlcE | rlcH | rlcL | rlcA | rrcB | rrcC | rrcD | rrcE | rrcH | rrcL | rrcA | rlB | rlC | rlD
  | rlE | rlH | rlL | rlA | rrB | rrC | rrD | rrE | rrH | rrL | rrA | slaB | slaC | slaD | slaE | slaH | slaL | slaA
  | sraB | sraC | sraD | sraE | sraH | sraL | sraA | swapB | swapC | swapD | swapE | swapH | swapL | swapA | srlB | srlC
  | srlD | srlE | srlH | srlL | srlA =>
    exact shiftReg_dataStep _ _ s
  | rlcMemHl | rrcMemHl | rlMemHl | rrMemHl | slaMemHl | sraMemHl | swapMemHl | srlMemHl =>
    exact shiftMemHl_dataStep _ s
  | bit0B | bit0C | bit0D | bit0E | bit0H | bit0L | bit0A | bit1B | bit1C | bit1D | bit1E | bit1H | bit1L | bit1A
  | bit2B | bit2C | bit2D | bit2E | bit2H | bit2L | bit2A | bit3B | bit3C | bit3D | bit3E | bit3H | bit3L | bit3A
  | bit4B | bit4C | bit4D | bit4E | bit4H | bit4L | bit4A | bit5B | bit5C | bit5D | bit5E | bit5H | bit5L | bit5A
  | bit6B | bit6C | bit6D | bit6E | bit6H | bit6L | bit6A | bit7B | bit7C | bit7D | bit7E | bit7H | bit7L | bit7A =>
    exact bitReg_dataStep _ _ s
  | bit0MemHl | bit1MemHl | bit2MemHl | bit3MemHl | bit4MemHl | bit5MemHl | bit6MemHl | bit7MemHl =>
    exact bitMemHl_dataStep _ s
  | jpNn | jpHl =>
    exact State.complete_dataStep (.ok (s.setPc_dataStep _))
  | jpNzNn | jpZNn | jpNcNn | jpCNn =>
    exact State.complete_dataStep (.ite (.ok (s.setPc_dataStep _)) (s.skip_dataStep 3))
  | jrE => exact State.complete_dataStep (s.jumpRelative_dataStep _)
  | jrNzE | jrZE | jrNcE | jrCE =>
    exact State.complete_dataStep (.ite (s.jumpRelative_dataStep _) (s.skip_dataStep 2))
  | callNn | rst00 | rst08 | rst10 | rst18 | rst20 | rst28 | rst30 | rst38 =>
    exact State.complete_dataStep (s.call_dataStep _ _)
  | callNzNn | callZNn | callNcNn | callCNn =>
    exact State.complete_dataStep (.ite (s.call_dataStep 3 _) (s.skip_dataStep 3))
  | ret => exact State.complete_dataStep s.returnFrom_dataStep
  | retNz | retZ | retNc | retC =>
    exact State.complete_dataStep (.ite s.returnFrom_dataStep (s.skip_dataStep 1))

/-- DI, EI and RETI do not write `halted`. -/
theorem exec_interrupt_cpuStep {i : Instr} (h : i = .di ∨ i = .ei ∨ i = .reti) (s : State) :
    Answers (fun t => s.CpuStep t ∧ t.halted = s.halted) (exec i s) := by
  have hf : ∀ f, s.CpuStep (s.takeFault f) ∧ (s.takeFault f).halted = s.halted := fun f =>
    ⟨(s.takeFault_dataStep f).toCpuStep, rfl⟩
  have hpc : ∀ (t : State) (w : Word), s.CpuStep t ∧ t.halted = s.halted →
      s.CpuStep { t with pc := w } ∧ State.halted { t with pc := w } = s.halted := fun t w ht =>
    ⟨ht.1.trans (t.setPc_dataStep w).toCpuStep, ht.2⟩
  rcases h with rfl | rfl | rfl
  · exact State.retire_answers 1 hf hpc (.ok ⟨State.cpuStep_control rfl fun _ _ => rfl, rfl⟩)
  · exact State.retire_answers 1 hf hpc (.ok s.requestEnable_cpuStep)
  · refine State.complete_answers hf (.bind fun t ht => .ok ?_)
    have hret := s.returnFrom_dataStep t ht
    exact ⟨hret.toCpuStep.trans (State.cpuStep_control rfl fun _ _ => rfl), hret.halted⟩

/-- HALT does not write IME or ei_pending. -/
theorem exec_halt_cpuStep (s : State) :
    Answers (fun t => s.CpuStep t ∧ t.ime = s.ime ∧ t.eiPending = s.eiPending) (exec .halt s) :=
  State.retire_answers 1 (fun f => ⟨(s.takeFault_dataStep f).toCpuStep, rfl, rfl⟩)
    (fun t w ⟨ht, hime, hei⟩ => ⟨ht.trans (t.setPc_dataStep w).toCpuStep, hime, hei⟩) s.haltOrRefuse_cpuStep

/-- No instruction writes the PPU's state or what is fixed for a run, and each keeps every clause of the invariant. -/
theorem exec_cpuStep (i : Instr) (s : State) : Answers s.CpuStep (exec i s) := by
  by_cases hint : i = .di ∨ i = .ei ∨ i = .reti
  · exact (exec_interrupt_cpuStep hint s).mono fun _ => And.left
  · by_cases hhalt : i = .halt
    · exact hhalt ▸ (exec_halt_cpuStep s).mono fun _ => And.left
    · exact (exec_dataStep hint hhalt s).mono fun _ => State.DataStep.toCpuStep

end Sys2Proof.Machine
end

section
/-! PROOFS. What a whole step may change, and the invariant that it keeps. -/

namespace Sys2Proof.Machine

open Sys2Proof.Spec

variable {s t u : State}

/-! The phases of a step. -/

theorem State.commitEi_cpuStep (s : State) (wasPending : Bool) : s.CpuStep (s.commitEi wasPending) := by
  unfold State.commitEi
  split
  · exact State.cpuStep_control rfl fun _ _ => rfl
  · exact State.cpuStep_control rfl id

theorem State.wake_cpuStep (s : State) : s.CpuStep s.wake := by
  unfold State.wake
  split
  · exact State.cpuStep_control rfl id
  · exact State.cpuStep_control rfl id

/-- One turn of the controller's loop stores one byte at most. -/
theorem serviceSource_dataStep (active : Byte) (s : State) (n : Nat) :
    Yields s.DataStep (serviceSource intHook active s n) := by
  refine .ite (.bind fun t ht => ?_) (.ok (.refl s))
  split
  · exact .ok (s.writeByte_dataStep _ _ t ht)
  · exact .error _ _

theorem foldlM_serviceSource_dataStep (active : Byte) (sources : List Nat) (s : State) :
    Yields s.DataStep (sources.foldlM (serviceSource intHook active) s) := by
  induction sources generalizing s with
  | nil => exact .ok (.refl s)
  | cons n sources ih =>
    rw [List.foldlM_cons]
    exact .bind fun t ht => (ih t).mono fun _ => (serviceSource_dataStep active s n t ht).trans

/-- The interrupt controller at the identity hook writes memory only and keeps the invariant. -/
theorem icPhase_dataStep (s : State) : Yields s.DataStep (icPhase intHook s) :=
  .ite (foldlM_serviceSource_dataStep _ _ s) (.ok (.refl s))

/-- The phases after a CPU phase that left `u`: a recorded fault, or the PPU after the CPU phase and the controller. -/
theorem State.CpuStep.finish_cases (h : s.CpuStep u) (ht : s.complete (u.finishPhases intHook s.eiPending) = .next t) :
    (∃ f, t = s.takeFault f) ∨ ∃ v, s.CpuStep v ∧ t = ppuPhase v := by
  rcases u.finishPhases_cases s.eiPending with ⟨v, hv, _, he⟩ | ⟨f, _, he⟩
  · rw [he] at ht
    cases ht
    exact .inr ⟨v, (h.trans (u.commitEi_cpuStep _)).trans (icPhase_dataStep _ v hv).toCpuStep, rfl⟩
  · rw [he] at ht
    cases ht
    exact .inl ⟨f, rfl⟩

/-- The rest of a step whose instruction answered `u`; a fault that the instruction recorded is the step's. -/
theorem State.CpuStep.afterInstr_cases (h : s.CpuStep u) (ht : s.afterInstr intHook (.next u) = .next t) :
    (∃ f, t = s.takeFault f) ∨ ∃ v, s.CpuStep v ∧ t = ppuPhase v := by
  cases hf : u.fault with
  | some f =>
    rw [State.afterInstr_fault intHook hf] at ht
    cases ht
    exact .inl ⟨f, rfl⟩
  | none =>
    rw [State.afterInstr_next intHook hf] at ht
    exact h.finish_cases ht

/-- What a step can do: record a fault and nothing else, or a CPU phase and the controller, and then the PPU. -/
theorem step_cases (h : step s = .next t) : (∃ f, t = s.takeFault f) ∨ ∃ v, s.CpuStep v ∧ t = ppuPhase v := by
  cases hf : s.fault with
  | some f =>
    rw [step, stepWith, hf] at h
    cases h
  | none =>
    cases hh : s.halted with
    | true => exact s.wake_cpuStep.finish_cases (step_halted hf hh ▸ h)
    | false =>
      cases hfetch : s.fetch with
      | error f =>
        rw [step_fetch_error hf hh hfetch] at h
        cases h
        exact .inl ⟨f, rfl⟩
      | ok i =>
        obtain ⟨u, hu, hstep⟩ := exec_cpuStep i s
        rw [step_fetch_ok hf hh hfetch, hu] at h
        exact hstep.afterInstr_cases h

/-! The invariant. -/

theorem State.CpuStep.inv (h : s.CpuStep t) (hi : s.Inv) : t.Inv where
  params := h.cfg ▸ hi.params
  memory := h.canonical hi.memory
  flags := h.flags hi.flags
  echo := h.echo hi.params hi.echo
  ppu := by rw [h.frame]; exact hi.ppu
  ei := h.ei hi.ei

/-- The PPU may move to any mode and counters in range. -/
theorem State.Inv.setPpu (hi : s.Inv) {mode : PpuMode} {ly sub : Nat}
    (hr : State.PpuInRange { s with ppuMode := mode, ppuLy := ly, ppuSub := sub }) :
    State.Inv { s with ppuMode := mode, ppuLy := ly, ppuSub := sub } :=
  { hi with ppu := hr }

/-- LY lies outside the mirrored ranges, so the PPU's direct store keeps the echo (60_exceptions.md R367). -/
theorem State.Inv.lyWrite (hi : s.Inv) (v : Nat) : (s.lyWrite v).Inv := by
  obtain ⟨-, -, -, -, hly, -⟩ := hi.params
  exact { hi with
    memory := State.pokeByte_canonical hi.memory
    echo := (State.pokeByte_poked s.cfg.params.lyAddr _).echoMirrored hi.params hly hi.echo }

theorem ppuHblank_inv (hi : s.Inv) (hm : s.ppuMode = .hblank) : (ppuHblank s).Inv := by
  have hr := hi.ppu
  obtain ⟨-, -, -, -, -, -, -, hfirst, -⟩ := hi.params
  simp only [State.PpuInRange, hm] at hr
  refine (hi.setPpu ?_).lyWrite _
  by_cases h : s.cfg.params.ppuVblankFirst ≤ s.ppuLy + 1
  · rw [if_pos h]
    exact ⟨h, hr.1.trans_le hfirst, hr.2⟩
  · rw [if_neg h]
    simp only [State.PpuInRange, hm]
    omega

theorem ppuVblank_inv (hi : s.Inv) (hm : s.ppuMode = .vblank) : (ppuVblank s).Inv := by
  have hr := hi.ppu
  obtain ⟨-, -, -, -, -, -, -, -, -, hoam, -⟩ := hi.params
  simp only [State.PpuInRange, hm] at hr
  unfold ppuVblank
  split
  · exact (hi.setPpu (mode := .oamRead) ⟨rfl, hoam⟩).lyWrite _
  · refine (hi.setPpu ?_).lyWrite _
    simp only [State.PpuInRange, hm]
    omega

theorem ppuOamRead_inv (hi : s.Inv) (hm : s.ppuMode = .oamRead) : (ppuOamRead s).Inv := by
  have hr := hi.ppu
  obtain ⟨-, -, -, -, -, -, -, -, -, -, hvram, -⟩ := hi.params
  simp only [State.PpuInRange, hm] at hr
  unfold ppuOamRead
  split
  · exact hi.setPpu (mode := .oamVramRead) ⟨hr.1, hvram⟩
  · refine hi.setPpu ?_
    simp only [State.PpuInRange, hm]
    omega

theorem ppuOamVramRead_inv (hi : s.Inv) (hm : s.ppuMode = .oamVramRead) : (ppuOamVramRead s).Inv := by
  have hr := hi.ppu
  obtain ⟨-, -, -, -, -, -, hfirst, -⟩ := hi.params
  simp only [State.PpuInRange, hm] at hr
  unfold ppuOamVramRead
  split
  · exact hi.setPpu (mode := .hblank) ⟨hr.1.symm ▸ hfirst, rfl⟩
  · refine hi.setPpu ?_
    simp only [State.PpuInRange, hm]
    omega

theorem ppuPhase_inv (hi : s.Inv) : (ppuPhase s).Inv := by
  unfold ppuPhase
  split
  · exact ppuHblank_inv hi ‹_›
  · exact ppuVblank_inv hi ‹_›
  · exact ppuOamRead_inv hi ‹_›
  · exact ppuOamVramRead_inv hi ‹_›

end Sys2Proof.Machine
end

section
/-! PROOFS. The statements of 10_state.md, settled. -/

open Sys2Proof Sys2Proof.Machine Sys2Proof.Spec

/-- Settles O3: the two halves of a word joined again are the word; the selectors reach their registers by definition. -/
theorem pairsAreAliases : Obligations.PairsAreAliases := by
  unfold Obligations.PairsAreAliases
  intro s v x
  refine ⟨⟨join_toNat _ _, join_toNat _ _, join_toNat _ _, join_toNat _ _⟩, ?_, fun q => s.stackPair_setStackPair_self q v,
    fun p => s.pair_setPair_self p v, ⟨rfl, rfl, rfl, rfl⟩, ⟨rfl, rfl, rfl, rfl, rfl⟩,
    ⟨rfl, rfl, rfl, rfl, rfl, rfl, rfl⟩, ⟨rfl, rfl, rfl, rfl, rfl, rfl, rfl⟩⟩
  rw [← hi_eq, ← lo_eq]
  exact ⟨rfl, rfl, rfl, rfl⟩

/-- Settles O4: the names by their table, the 8-bit steps by `inc8_incs` and `dec8_decs`, PC's by what `addr16` answers. -/
theorem genericAccessorsKnowFourteenNames : Obligations.GenericAccessorsKnowFourteenNames := by
  unfold Obligations.GenericAccessorsKnowFourteenNames
  refine ⟨⟨rfl, rfl, rfl, rfl, rfl, rfl, rfl, rfl, rfl, rfl, rfl, rfl, rfl, rfl⟩, fun _ => regOfName_unknown,
    fun s v w r q => ⟨?get, ?set, ?readBack, ?inc, ?dec, ?pcInc, ?pcIncFault, State.retractPc_ok, State.retractPc_error⟩⟩
  case get => exact ⟨zext16_toNat _, zext16_toNat _, rfl, rfl, rfl⟩
  case set =>
    rw [← lo_eq]
    exact ⟨rfl, rfl, rfl, rfl, rfl⟩
  case readBack =>
    have hr : (s.setReg (.r r) v).getReg (.r r) = Bits.zext16 (Bits.lo v) := congrArg Bits.zext16 (s.r8_setR8_self r _)
    have hlo : (Bits.zext16 (Bits.lo v)).toNat = v.toNat % 256 := (zext16_toNat _).trans (lo_toNat v)
    exact ⟨by rw [hr, hlo], hlo, s.stackPair_setStackPair_self q v, rfl, rfl⟩
  case inc =>
    obtain ⟨hx, _⟩ := inc8_incs s.f s.f
    refine ⟨⟨_, _, inc8_incs _ _, rfl⟩, ?_, ⟨_, BitVec.toNat_add _ 1, rfl⟩, _, BitVec.toNat_add _ 1, rfl⟩
    rw [← hx, byte, BitVec.ofNat_toNat, BitVec.setWidth_eq]
    rfl
  case dec =>
    obtain ⟨hx, _⟩ := dec8_decs s.f s.f
    refine ⟨⟨_, _, dec8_decs _ _, rfl⟩, ?_, ⟨_, toNat_sub_one _ (by decide), rfl⟩, _, toNat_sub_one _ (by decide), rfl⟩
    rw [← hx, byte, BitVec.ofNat_toNat, BitVec.setWidth_eq]
    rfl
  case pcInc =>
    intro h
    have ha := State.advancePc_ok h
    exact ⟨ha, by simp [State.incReg, ha, bind, Except.bind]⟩
  case pcIncFault =>
    intro h
    have ha := State.advancePc_error h
    exact ⟨ha, by simp [State.incReg, ha, bind, Except.bind]⟩

/-- Settles O56: the reset state meets the invariant at any legal parameters, and the defaults are legal. -/
theorem resetMeetsInvariant : Obligations.ResetMeetsInvariant := State.resetAt_inv Params.defaults_legal

/-- Settles O57: a step records a fault, or it is a CPU phase and the controller, which keep the invariant, and then the PPU,
which keeps it in each of its modes. -/
theorem stepKeepsInvariant : Obligations.StepKeepsInvariant := by
  unfold Obligations.StepKeepsInvariant
  intro s t hi hstep
  rcases step_cases hstep with ⟨f, rfl⟩ | ⟨v, hv, rfl⟩
  · exact (s.takeFault_dataStep f).inv hi
  · exact ppuPhase_inv (hv.inv hi)

/-- Settles O59: DI, EI and RETI do not write `halted`, HALT neither IME nor ei_pending, any other none of the three. -/
theorem onlyNamedInstructionsWriteControlState : Obligations.OnlyNamedInstructionsWriteControlState := by
  unfold Obligations.OnlyNamedInstructionsWriteControlState
  intro i s t ht
  have hcpu : s.CpuStep t := (exec_cpuStep i s).of_next ht
  refine ⟨fun hne => ?_, fun hne => ?_, hcpu.ppuMode, hcpu.ppuLy, hcpu.ppuSub⟩
  · by_contra hint
    by_cases hhalt : i = .halt
    · obtain ⟨_, hime, hei⟩ := (exec_halt_cpuStep s).of_next (hhalt ▸ ht)
      exact hne.elim (· hime) (· hei)
    · have hdata := (exec_dataStep hint hhalt s).of_next ht
      exact hne.elim (· hdata.ime) (· hdata.eiPending)
  · by_contra hhalt
    by_cases hint : i = .di ∨ i = .ei ∨ i = .reti
    · exact hne ((exec_interrupt_cpuStep hint s).of_next ht).2
    · exact hne ((exec_dataStep hint hhalt s).of_next ht).halted

end

section
/-! PROOFS. Laws of memory: one-byte and two-byte accesses and what they raise (20_memory.md R63 to R68), the bytes that a reset
leaves (R79), and what is fixed for a run (R61, R77). -/

namespace Sys2Proof.Machine

open Sys2Proof.Spec

variable {s t : State} {a a1 v : Word} {f : Fault}

/-! One-byte accesses. -/

theorem State.readByte_of_inRom (h : s.InRom a) : s.readByte a = Mem.read romDefault s.rom a.toNat := by
  rw [State.readByte_eq, if_pos h]

theorem State.readByte_of_not_inRom (h : ¬s.InRom a) : s.readByte a = bufferByte s a := by
  rw [State.readByte_eq, if_neg h, bufferByte]

theorem State.storeFault_romWrite (h : s.InRom a) (hw : s.cfg.romWrite = .fault) (b : Byte) :
    s.storeFault a b = some (.romWrite a b) := by
  rw [State.storeFault, if_pos h, hw]

theorem State.storeFault_romIgnore (h : s.InRom a) (hw : s.cfg.romWrite = .ignore) (b : Byte) : s.storeFault a b = none := by
  rw [State.storeFault, if_pos h, hw]

/-- A mirrored range whose target ends inside the address space raises nothing. -/
theorem State.echoFault_of_le {source target : Word} (h : target.toNat + s.cfg.params.echoLen ≤ 65536) :
    s.echoFault source target a = none :=
  if_neg fun ⟨_, _, _, _⟩ => by omega

theorem State.echoFault_of_wrap {source target : Word} (h : s.cfg.addrOverflow = .wrap) : s.echoFault source target a = none :=
  if_neg fun ⟨hfault, _⟩ => absurd (h.symm.trans hfault) (by decide)

/-- Above the ROM window a store raises nothing where the two lines of EchoMirror raise nothing. -/
theorem State.storeFault_of_echoFault (h : ¬s.InRom a)
    (hecho : s.echoFault s.cfg.params.wramBase s.cfg.params.echoBase a = none)
    (hwram : s.echoFault s.cfg.params.echoBase s.cfg.params.wramBase a = none) (b : Byte) : s.storeFault a b = none := by
  rw [State.storeFault, if_neg h, hecho, hwram, Option.or_none]

theorem State.storeFault_of_wrap (h : ¬s.InRom a) (hwrap : s.cfg.addrOverflow = .wrap) (b : Byte) : s.storeFault a b = none :=
  State.storeFault_of_echoFault h (State.echoFault_of_wrap hwrap) (State.echoFault_of_wrap hwrap) b

/-- At legal parameters both mirrored ranges lie inside the address space. -/
theorem State.storeFault_of_legal (h : ¬s.InRom a) (hl : s.cfg.params.Legal) (b : Byte) : s.storeFault a b = none := by
  obtain ⟨-, hlen, hram, htop, -⟩ := hl
  exact State.storeFault_of_echoFault h (State.echoFault_of_le htop) (State.echoFault_of_le (by omega)) b

/-- A write into the ROM window that is ignored leaves the state as it was. -/
theorem State.writeByte_romIgnore (h : s.InRom a) (hw : s.cfg.romWrite = .ignore) (b : Byte) : s.writeByte a b = .ok s := by
  obtain ⟨t, ht, _, hsame, _⟩ := State.writeByte_ok (State.storeFault_romIgnore h hw b)
  rw [ht, hsame h]

/-! Two-byte accesses. -/

theorem State.readShort_big_ok (h : s.Addr (a.toNat + 1) a1) :
    s.readShort .big a = .ok (Bits.join (s.readByte a) (s.readByte a1)) := by
  have ha : s.addrAdd a 1 = .ok a1 := State.addr16_ok h
  simp [State.readShort, ha, bind, Except.bind]

theorem State.readShort_error (h : s.OutOfRange (a.toNat + 1)) (o : ByteOrder) :
    s.readShort o a = .error (.addressRange (a.toNat + 1)) := by
  have ha : s.addrAdd a 1 = .error (.addressRange (a.toNat + 1)) := State.addr16_error h
  simp [State.readShort, ha, bind, Except.bind]

/-- `first` and `second` are the bytes of `v` in the order in which `write_short` stores them (20_memory.md R68). -/
abbrev ByteOrder.Splits (o : ByteOrder) (v : Word) (first second : Byte) : Prop :=
  o = .little ∧ first = byte (v.toNat % 256) ∧ second = byte (v.toNat / 256) ∨
    o = .big ∧ first = byte (v.toNat / 256) ∧ second = byte (v.toNat % 256)

section WriteShort

variable {o : ByteOrder} {first second : Byte} (ho : o.Splits v first second)
include ho

theorem State.writeShort_eq (s : State) (a : Word) :
    s.writeShort o a v = (s.writeByte a first).bind fun m => (m.addrAdd a 1).bind fun a1 => m.writeByte a1 second := by
  rw [ByteOrder.Splits, ← lo_eq, ← hi_eq] at ho
  rcases ho with ⟨rfl, rfl, rfl⟩ | ⟨rfl, rfl, rfl⟩ <;> rfl

theorem State.writeShort_error_first (h : s.storeFault a first = some f) : s.writeShort o a v = .error f := by
  rw [State.writeShort_eq ho, State.writeByte_error h]
  rfl

/-- After the first byte the address of the second is computed and the second byte is stored there. -/
theorem State.writeShort_after_first (h : s.storeFault a first = none) :
    ∃ m, s.StoredByte m a first ∧
      s.writeShort o a v = (s.addrAdd a 1).bind fun a1 => m.writeByte a1 second := by
  obtain ⟨m, hm, hs⟩ := State.writeByte_ok h
  have ha : m.addrAdd a 1 = s.addrAdd a 1 := State.addr16_congr hs.cfg _
  exact ⟨m, hs, by rw [State.writeShort_eq ho, hm, ← ha]; rfl⟩

theorem State.writeShort_error_address (h : s.storeFault a first = none) (hr : s.OutOfRange (a.toNat + 1)) :
    s.writeShort o a v = .error (.addressRange (a.toNat + 1)) := by
  obtain ⟨m, _, hw⟩ := State.writeShort_after_first ho h
  have ha : s.addrAdd a 1 = .error (.addressRange (a.toNat + 1)) := State.addr16_error hr
  rw [hw, ha]
  rfl

/-- With its second address in range, the access ends with the write of the second byte. -/
theorem State.writeShort_second (h : s.storeFault a first = none) (h1 : s.Addr (a.toNat + 1) a1) :
    ∃ m, s.StoredByte m a first ∧ s.writeShort o a v = m.writeByte a1 second := by
  obtain ⟨m, hs, hw⟩ := State.writeShort_after_first ho h
  have ha : s.addrAdd a 1 = .ok a1 := State.addr16_ok h1
  exact ⟨m, hs, by rw [hw, ha]; rfl⟩

theorem State.writeShort_error_second (h : s.storeFault a first = none) (h1 : s.Addr (a.toNat + 1) a1)
    (h2 : s.storeFault a1 second = some f) : s.writeShort o a v = .error f := by
  obtain ⟨m, hs, hw⟩ := State.writeShort_second ho h h1
  rw [hw, State.writeByte_error ((State.storeFault_congr hs.cfg a1 second).trans h2)]

theorem State.writeShort_stores (h : s.storeFault a first = none) (h1 : s.Addr (a.toNat + 1) a1)
    (h2 : s.storeFault a1 second = none) :
    ∃ m t, s.writeShort o a v = .ok t ∧ s.StoredByte m a first ∧ m.StoredByte t a1 second := by
  obtain ⟨m, hs, hw⟩ := State.writeShort_second ho h h1
  obtain ⟨t, ht, hs'⟩ := State.writeByte_ok ((State.storeFault_congr hs.cfg a1 second).trans h2)
  exact ⟨m, t, hw.trans ht, hs, hs'⟩

end WriteShort

/-! Load and reset. -/

/-- Overwriting in turn leaves the entry nearest the end of the list. -/
theorem foldr_overwrite_eq_lookup (entries : List (Nat × Byte)) (a : Nat) (v : Byte) :
    entries.foldr (fun entry v => if entry.1 = a then entry.2 else v) v = (entries.lookup a).getD v := by
  induction entries with
  | nil => rfl
  | cons entry entries ih =>
    rw [List.foldr_cons, ih, List.lookup_cons]
    by_cases h : a = entry.1
    · simp [h]
    · simp [Ne.symm h, beq_false_of_ne h]

/-- A byte that nothing has written reads as the last value that IO_DEFAULTS gives its address, or as zero. -/
theorem memDefault_eq_lookup (p : Params) (a : Nat) : memDefault p a = (p.ioDefaults.reverse.lookup a).getD 0x00 := by
  rw [memDefault, List.foldl_eq_foldr_reverse, foldr_overwrite_eq_lookup]

/-- The host's reset leaves the values of RESET_REGS and IO_DEFAULTS (70_reset_and_hazards.md R390). -/
theorem State.powerOn_resetTo (s : State) : ResetTo s.cfg.params s.powerOn :=
  ⟨rfl, rfl, rfl, rfl, rfl, rfl, rfl, rfl, rfl, rfl, rfl, rfl, rfl, rfl, rfl, rfl,
    fun x => memDefault_eq_lookup s.cfg.params x.toNat⟩

theorem hostReset_refused (hf : s.fault = none) (hl : s.launch = .unloaded) : hostReset s = .refused .resetBeforeLoad := by
  rw [hostReset, hf, hl]

theorem hostReset_next (hf : s.fault = none) (hl : s.launch ≠ .unloaded) : hostReset s = .next s.powerOn := by
  rcases hostReset_cases s with ⟨f, hfault, _⟩ | ⟨_, hunloaded, _⟩ | ⟨_, _, hnext⟩
  · exact absurd (hf.symm.trans hfault) nofun
  · exact absurd hunloaded hl
  · exact hnext

theorem hostLoad_after_reset {image : List Byte} (h : s.launch = .reset) : hostLoad image s = .refused .loadAfterReset := by
  rw [hostLoad_eq, if_pos h]

theorem hostLoad_short {image : List Byte} (hl : s.launch ≠ .reset) (hshort : image.length < 0x8000) :
    hostLoad image s = .refused (.cartridgeFormat (.shortImage image.length)) := by
  rw [hostLoad_eq, if_neg hl]
  exact if_pos hshort

theorem hostLoad_unknownType {image : List Byte} (hl : s.launch ≠ .reset) (hlong : 0x8000 ≤ image.length)
    (htype : Config.cartTypes (image.getD 0x0147 0) = none) :
    hostLoad image s = .refused (.cartridgeFormat (.unknownType (image.getD 0x0147 0))) := by
  rw [hostLoad_eq, if_neg hl, State.loadCartridge, Config.minRomLength, if_neg hlong.not_gt, Config.cartTypeOffset, htype]

theorem hostLoad_recorded {image : List Byte} {mode : String} (hl : s.launch ≠ .reset) (hlong : 0x8000 ≤ image.length)
    (htype : Config.cartTypes (image.getD 0x0147 0) = some mode) :
    hostLoad image s = .next { s with rom := romOfBytes 0 image, bankMode := some mode, launch := .loaded } := by
  rw [hostLoad_eq, if_neg hl, State.loadCartridge, Config.minRomLength, if_neg hlong.not_gt, Config.cartTypeOffset, htype]

/-! What is fixed for a run. -/

/-- What the host's launch fixes: no step changes it. -/
structure State.SameLaunch (s t : State) : Prop where
  rom : t.rom = s.rom
  bankMode : t.bankMode = s.bankMode
  launch : t.launch = s.launch
  cfg : t.cfg = s.cfg

theorem State.CpuStep.sameLaunch (h : s.CpuStep t) : s.SameLaunch t := by
  constructor <;> rw [h.frame]

theorem State.SameLaunch.ppuPhase (h : s.SameLaunch t) : s.SameLaunch (ppuPhase t) where
  rom := ppuPhase_rom.trans h.rom
  bankMode := ppuPhase_bankMode.trans h.bankMode
  launch := ppuPhase_launch.trans h.launch
  cfg := ppuPhase_cfg.trans h.cfg

theorem step_sameLaunch (h : step s = .next t) : s.SameLaunch t := by
  rcases step_cases h with ⟨f, rfl⟩ | ⟨u, hu, rfl⟩
  · exact (s.takeFault_dataStep f).sameLaunch
  · exact hu.sameLaunch.ppuPhase

/-- Reads of the ROM window see the image and the configuration only. -/
theorem State.SameLaunch.readByte (h : s.SameLaunch t) (ha : s.InRom a) : t.readByte a = s.readByte a := by
  have ha' : t.InRom a := by
    rw [State.InRom, h.cfg]
    exact ha
  rw [State.readByte_of_inRom ha', State.readByte_of_inRom ha, h.rom]

end Sys2Proof.Machine
end

section
/-! PROOFS. The statements of 20_memory.md, settled. -/

open Sys2Proof Sys2Proof.Machine Sys2Proof.Spec

/-- Settles O2: a load by the launch, the length and the type byte, in that order; a reset by the launch. -/
theorem cartridgeLoadRefusesOrRecords : Obligations.CartridgeLoadRefusesOrRecords := by
  unfold Obligations.CartridgeLoadRefusesOrRecords
  refine fun image s => ⟨hostLoad_after_reset, fun hl => ⟨hostLoad_short hl, fun hlong => ?long⟩, hostReset_refused,
    fun hf hl hbank => ⟨_, hostReset_next hf hl, s.powerOn_resetTo, rfl, hbank, rfl⟩⟩
  case long =>
    split
    · exact hostLoad_unknownType hl hlong ‹_›
    · refine ⟨_, hostLoad_recorded hl hlong ‹_›, rfl, fun k => ?_⟩
      have hread := Mem.read_romOfBytes image 0 k
      rwa [Nat.zero_add] at hread

/-- Settles O5: a read by where its address lies, a write by what `storeFault` says it raises. -/
theorem byteAccessMirrorsAndSparesRom : Obligations.ByteAccessMirrorsAndSparesRom := by
  unfold Obligations.ByteAccessMirrorsAndSparesRom
  exact fun s a v => ⟨State.readByte_of_inRom, State.readByte_of_not_inRom,
    fun h hw => State.writeByte_error (State.storeFault_romWrite h hw v),
    fun h hw => State.writeByte_romIgnore h hw v,
    fun h hsafe => hsafe.elim (State.storeFault_of_wrap h · v) (State.storeFault_of_legal h · v),
    fun _ => State.writeByte_error, State.writeByte_ok⟩

/-- Settles O6: the two bytes joined, and the two one-byte writes in the order asked. -/
theorem shortAccessIsTwoByteAccesses : Obligations.ShortAccessIsTwoByteAccesses := by
  unfold Obligations.ShortAccessIsTwoByteAccesses
  exact fun s a v =>
    ⟨fun a1 h1 => ⟨⟨_, State.readShort_ok h1, join_toNat _ _⟩, _, State.readShort_big_ok h1, join_toNat _ _⟩,
      State.readShort_error,
      fun o first second ho => ⟨fun f => State.writeShort_error_first ho, fun h =>
        ⟨State.writeShort_error_address ho h, fun a1 h1 =>
          ⟨fun f => State.writeShort_error_second ho h h1, State.writeShort_stores ho h h1⟩⟩⟩⟩

/-- Settles O58: a step keeps what the launch fixed, and with it every read of the ROM window. -/
theorem stepKeepsCartridge : Obligations.StepKeepsCartridge := by
  unfold Obligations.StepKeepsCartridge
  intro s t h
  have hs := step_sameLaunch h
  exact ⟨hs.rom, hs.bankMode, hs.launch, hs.cfg, fun x => hs.readByte⟩

end

section
/-! PROOFS. The encoding of every row and the two directions of decoding (30_encoding.md R101 to R114). -/

namespace Sys2Proof

open Sys2Proof.Machine Sys2Proof.Spec

/-! The fields of an opcode (30_encoding.md R102, R103). -/

/-- An opcode byte put together from its fields. -/
theorem byte_of_fields {op : Byte} {x y z : Nat} (hx : Bits.fieldX op = x) (hy : (Bits.fieldY op).val = y)
    (hz : (Bits.fieldZ op).val = z) : byte (64 * x + 8 * y + z) = op := by
  subst hx hy hz
  apply BitVec.eq_of_toNat_eq
  simp only [Bits.fieldX, Bits.fieldY, Bits.fieldZ, Fin.val_ofNat, BitVec.toNat_ofNat]
  omega

theorem fieldX_cases (op : Byte) :
    Bits.fieldX op = 0 ∨ Bits.fieldX op = 1 ∨ Bits.fieldX op = 2 ∨ Bits.fieldX op = 3 := by
  have := op.isLt
  unfold Bits.fieldX
  omega

theorem val_of_r8OfField_some {z : Fin 8} {r : R8} (h : r8OfField z = some r) : z.val = r.code := by
  revert z r
  decide

theorem val_of_r8OfField_none {z : Fin 8} (h : r8OfField z = none) : z.val = 6 := by
  revert z
  decide

/-! The encodings of the families (30_encoding.md R109, R110). -/

/-- `bytes` are the encoding of the instruction, which is well-formed. -/
def Instr.EncodedAs (i : Instr) (bytes : List Byte) : Prop := i.wellFormed = true ∧ bytes = encode i

theorem ofLdRegReg_encodedAs (dst src : R8) :
    (Instr.ofLdRegReg dst src).EncodedAs [byte (0x40 + 8 * dst.code + src.code)] := by
  cases dst <;> cases src <;> exact ⟨rfl, rfl⟩

theorem ofLdRegMemHl_encodedAs (dst : R8) : (Instr.ofLdRegMemHl dst).EncodedAs [byte (0x40 + 8 * dst.code + 6)] := by
  cases dst <;> exact ⟨rfl, rfl⟩

theorem ofLdMemHlReg_encodedAs (src : R8) : (Instr.ofLdMemHlReg src).EncodedAs [byte (0x40 + 8 * 6 + src.code)] := by
  cases src <;> exact ⟨rfl, rfl⟩

theorem ofAluReg_encodedAs (y : Fin 8) (r : R8) :
    (Instr.ofAluReg (aluOfField y) r).EncodedAs [byte (0x80 + 8 * y.val + r.code)] := by
  fin_cases y <;> cases r <;> exact ⟨rfl, rfl⟩

theorem ofAluMemHl_encodedAs (y : Fin 8) : (Instr.ofAluMemHl (aluOfField y)).EncodedAs [byte (0x80 + 8 * y.val + 6)] := by
  fin_cases y <;> exact ⟨rfl, rfl⟩

theorem ofShiftReg_encodedAs (y : Fin 8) (r : R8) :
    (Instr.ofShiftReg (shiftOfField y) r).EncodedAs [0xCB, byte (0x00 + 8 * y.val + r.code)] := by
  fin_cases y <;> cases r <;> exact ⟨rfl, rfl⟩

theorem ofShiftMemHl_encodedAs (y : Fin 8) :
    (Instr.ofShiftMemHl (shiftOfField y)).EncodedAs [0xCB, byte (0x00 + 8 * y.val + 6)] := by
  fin_cases y <;> exact ⟨rfl, rfl⟩

theorem ofBitReg_encodedAs (n : Fin 8) (r : R8) :
    (Instr.ofBitReg n r).EncodedAs [0xCB, byte (0x40 + 8 * n.val + r.code)] := by
  fin_cases n <;> cases r <;> exact ⟨rfl, rfl⟩

theorem ofBitMemHl_encodedAs (n : Fin 8) : (Instr.ofBitMemHl n).EncodedAs [0xCB, byte (0x40 + 8 * n.val + 6)] := by
  fin_cases n <;> exact ⟨rfl, rfl⟩

theorem ofResReg_encodedAs (n : Fin 8) (r : R8) :
    (Instr.ofResReg n r).EncodedAs [0xCB, byte (0x80 + 8 * n.val + r.code)] := by
  fin_cases n <;> cases r <;> exact ⟨rfl, rfl⟩

theorem ofResMemHl_encodedAs (n : Fin 8) : (Instr.ofResMemHl n).EncodedAs [0xCB, byte (0x80 + 8 * n.val + 6)] := by
  fin_cases n <;> exact ⟨rfl, rfl⟩

theorem ofSetReg_encodedAs (n : Fin 8) (r : R8) :
    (Instr.ofSetReg n r).EncodedAs [0xCB, byte (0xC0 + 8 * n.val + r.code)] := by
  fin_cases n <;> cases r <;> exact ⟨rfl, rfl⟩

theorem ofSetMemHl_encodedAs (n : Fin 8) : (Instr.ofSetMemHl n).EncodedAs [0xCB, byte (0xC0 + 8 * n.val + 6)] := by
  fin_cases n <;> exact ⟨rfl, rfl⟩

/-! The opcode maps. -/

/-- The instruction that a descriptor selects with the operand byte `n` or the operand word `nn`. -/
@[simp] def Descriptor.select (n : Byte) (nn : Word) : Descriptor → Instr
  | .op i => i
  | .imm8 f => f n
  | .imm16 f => f nn
  | .cb => cbInstr n

/-- The bytes of the operand after the opcode. -/
@[simp] def Descriptor.operands (n : Byte) (nn : Word) : Descriptor → List Byte
  | .op _ => []
  | .imm8 _ => [n]
  | .imm16 _ => [Bits.lo nn, Bits.hi nn]
  | .cb => [n]

/-- Whatever the operand, what the descriptor selects is encoded as `op` and the operand. -/
def Descriptor.Encodes (d : Descriptor) (op : Byte) : Prop :=
  ∀ n nn, (d.select n nn).EncodedAs (op :: d.operands n nn)

theorem Descriptor.op_encodes {i : Instr} {op : Byte} (h : i.EncodedAs [op]) : (Descriptor.op i).Encodes op := fun _ _ => h

/-- The sub-opcode map: each instruction is encoded as the pair of bytes that selects it (30_encoding.md R110). -/
theorem cbInstr_encodedAs (sub : Byte) : (cbInstr sub).EncodedAs [0xCB, sub] := by
  cases hr : r8OfField (Bits.fieldZ sub) with
  | some r =>
    have hz := val_of_r8OfField_some hr
    rcases fieldX_cases sub with hx | hx | hx | hx <;> simp only [cbInstr, hx, hr]
    · simpa only [byte_of_fields hx rfl hz] using ofShiftReg_encodedAs (Bits.fieldY sub) r
    · simpa only [byte_of_fields hx rfl hz] using ofBitReg_encodedAs (Bits.fieldY sub) r
    · simpa only [byte_of_fields hx rfl hz] using ofResReg_encodedAs (Bits.fieldY sub) r
    · simpa only [byte_of_fields hx rfl hz] using ofSetReg_encodedAs (Bits.fieldY sub) r
  | none =>
    have hz := val_of_r8OfField_none hr
    rcases fieldX_cases sub with hx | hx | hx | hx <;> simp only [cbInstr, hx, hr]
    · simpa only [byte_of_fields hx rfl hz] using ofShiftMemHl_encodedAs (Bits.fieldY sub)
    · simpa only [byte_of_fields hx rfl hz] using ofBitMemHl_encodedAs (Bits.fieldY sub)
    · simpa only [byte_of_fields hx rfl hz] using ofResMemHl_encodedAs (Bits.fieldY sub)
    · simpa only [byte_of_fields hx rfl hz] using ofSetMemHl_encodedAs (Bits.fieldY sub)

theorem Descriptor.cb_encodes : Descriptor.cb.Encodes 0xCB := fun n _ => cbInstr_encodedAs n

theorem lowBlock_encodes (y z : Fin 8) (d : Descriptor) :
    ((lowBlock.getD y.val []).getD z.val d).Encodes (byte (0x00 + 8 * y.val + z.val)) := by
  fin_cases y <;> fin_cases z <;> exact fun _ _ => ⟨rfl, rfl⟩

theorem highBlock_encodes (y z : Fin 8) (d : Descriptor) :
    ((highBlock.getD y.val []).getD z.val d).Encodes (byte (0xC0 + 8 * y.val + z.val)) := by
  fin_cases y <;> fin_cases z
  -- The entry at y = 1, z = 3 is 0xCB's: what it selects is the sub-opcode map's to say.
  on_goal 12 => exact Descriptor.cb_encodes
  all_goals exact fun _ _ => ⟨rfl, rfl⟩

theorem loadBlock_encodes {op : Byte} (hx : Bits.fieldX op = 1) : (loadBlock op).Encodes op := by
  unfold loadBlock
  split <;> apply Descriptor.op_encodes
  next dst src hy hz =>
    exact byte_of_fields hx (val_of_r8OfField_some hy) (val_of_r8OfField_some hz) ▸ ofLdRegReg_encodedAs dst src
  next dst hy hz =>
    exact byte_of_fields hx (val_of_r8OfField_some hy) (val_of_r8OfField_none hz) ▸ ofLdRegMemHl_encodedAs dst
  next src hy hz =>
    exact byte_of_fields hx (val_of_r8OfField_none hy) (val_of_r8OfField_some hz) ▸ ofLdMemHlReg_encodedAs src
  next hy hz => exact byte_of_fields hx (val_of_r8OfField_none hy) (val_of_r8OfField_none hz) ▸ ⟨rfl, rfl⟩

theorem aluBlock_encodes {op : Byte} (hx : Bits.fieldX op = 2) : (aluBlock op).Encodes op := by
  unfold aluBlock
  split <;> apply Descriptor.op_encodes
  next r hz => simpa only [byte_of_fields hx rfl (val_of_r8OfField_some hz)] using ofAluReg_encodedAs (Bits.fieldY op) r
  next hz => simpa only [byte_of_fields hx rfl (val_of_r8OfField_none hz)] using ofAluMemHl_encodedAs (Bits.fieldY op)

/-- The primary map: what an opcode selects is encoded as that opcode and its operand (30_encoding.md R109). -/
theorem primary_encodes (op : Byte) : (primary op).Encodes op := by
  rcases fieldX_cases op with hx | hx | hx | hx <;> simp only [primary, hx]
  · have h := lowBlock_encodes (Bits.fieldY op) (Bits.fieldZ op) (.op (.illegal op))
    rwa [byte_of_fields hx rfl rfl] at h
  · exact loadBlock_encodes hx
  · exact aluBlock_encodes hx
  · have h := highBlock_encodes (Bits.fieldY op) (Bits.fieldZ op) (.op (.illegal op))
    rwa [byte_of_fields hx rfl rfl] at h

/-! Decoding. -/

theorem lo_join (h l : Byte) : Bits.lo (Bits.join h l) = l := by
  apply BitVec.eq_of_toNat_eq
  rw [lo_toNat, join_toNat]
  omega

theorem hi_join (h l : Byte) : Bits.hi (Bits.join h l) = h := by
  apply BitVec.eq_of_toNat_eq
  rw [hi_eq, join_toNat, BitVec.toNat_ofNat]
  omega

/-- What decoding takes from the bytes: the opcode, its operand, and the bytes left (30_encoding.md R101). -/
theorem select_operands_of_decode {op : Byte} {rest r : List Byte} {i : Instr} (h : decode (op :: rest) = .ok (i, r)) :
    ∃ n nn, i = (primary op).select n nn ∧ rest = (primary op).operands n nn ++ r := by
  simp only [decode] at h
  split at h <;> cases h
  next hp => exact ⟨0, 0, by simp [hp]⟩
  next n hp => exact ⟨n, 0, by simp [hp]⟩
  next lo hi hp => exact ⟨0, Bits.join hi lo, by simp [hp, lo_join, hi_join]⟩
  next sub hp => exact ⟨sub, 0, by simp [hp]⟩

theorem encodedAs_of_decode {bytes rest : List Byte} {i : Instr} (h : decode bytes = .ok (i, rest)) :
    ∃ front, i.EncodedAs front ∧ bytes = front ++ rest := by
  cases bytes with
  | nil => cases h
  | cons op operand =>
    obtain ⟨n, nn, rfl, rfl⟩ := select_operands_of_decode h
    exact ⟨_, primary_encodes op n nn, rfl⟩

theorem decode_op {op : Byte} {i : Instr} (h : primary op = .op i) (rest : List Byte) :
    decode (op :: rest) = .ok (i, rest) := by
  simp only [decode, h]

theorem decode_imm16 {op : Byte} {f : Word → Instr} (h : primary op = .imm16 f) (nn : Word) (rest : List Byte) :
    decode (op :: Bits.lo nn :: Bits.hi nn :: rest) = .ok (f nn, rest) := by
  simp only [decode, h, join_hi_lo]

theorem primary_illegal {op : Byte} (h : op ∈ illegalOpcodes) : primary op = .op (.illegal op) := by
  unfold illegalOpcodes at h
  fin_cases h <;> rfl

theorem wellFormed_illegal {op : Byte} : (Instr.illegal op).wellFormed = true ↔ op ∈ illegalOpcodes :=
  List.contains_iff_mem

/-- Decoding gives an instruction's encoding back, with `PREFIX CB` as the row of its sub-opcode (log entry 11). -/
theorem decode_encode (i : Instr) (rest : List Byte) (h : i.wellFormed = true) :
    decode (encode i ++ rest) = .ok (i.canonical, rest) := by
  cases i with
  | illegal op => exact decode_op (primary_illegal (wellFormed_illegal.1 h)) rest
  | ldBcNn nn | ldMemNnSp nn | ldDeNn nn | ldHlNn nn | ldSpNn nn | jpNzNn nn | jpNn nn | callNzNn nn | jpZNn nn
  | callZNn nn | callNn nn | jpNcNn nn | callNcNn nn | jpCNn nn | callCNn nn | ldMemNnA nn | ldAMemNn nn =>
    exact decode_imm16 rfl nn rest
  | _ => rfl

theorem Instr.canonical_of_ne_prefixCb {i : Instr} (h : ∀ sub, i ≠ .prefixCb sub) : i.canonical = i := by
  unfold Instr.canonical
  split
  next sub => exact absurd rfl (h sub)
  next => rfl

/-! Lengths. -/

theorem length_operands (op n : Byte) (nn : Word) : ((primary op).operands n nn).length = operandCount op := by
  unfold operandCount
  cases primary op <;> rfl

/-- The operand bytes of every opcode (30_encoding.md R114). -/
theorem operandCount_eq (op : Byte) :
    operandCount op = if op ∈ twoByteOpcodes then 1 else if op ∈ threeByteOpcodes then 2 else 0 := by
  revert op
  decide

theorem length_of_decode {op : Byte} {rest r : List Byte} {i : Instr} (h : decode (op :: rest) = .ok (i, r)) :
    (op :: rest).length = r.length + lengthOf op := by
  obtain ⟨n, nn, -, rfl⟩ := select_operands_of_decode h
  rw [List.length_cons, List.length_append, length_operands, lengthOf]
  omega

end Sys2Proof
end

section
/-! PROOFS. Fetching: an opcode outside IMPLEMENTED, and the instruction that the bytes at PC decode to (40_engine.md R132 to
R134); and how a step that fetched an instruction ends (R130, R131). -/

namespace Sys2Proof.Machine

open Sys2Proof.Spec

variable {s t : State} {f : Fault} {i : Instr} {operands r : List Byte}

/-! With PC's increment in range a fetch ends in one of three ways: at the test of the opcode, at the test of the 0xCB pair, or
with the instruction decoded. -/

theorem State.fetch_unmapped (hn : ∃ w, s.Next 1 w) (hop : s.unimplementedOp (s.readByte s.pc) = true) :
    s.fetch = .error (.unmappedOpcode (s.readByte s.pc) s.pc) := by
  obtain ⟨w, hw⟩ := hn
  simp [State.fetch, State.advancePc_ok hw, hop, bind, Except.bind]

theorem State.fetch_unmappedSub (hn : ∃ w, s.Next 1 w) (hop : s.unimplementedOp (s.readByte s.pc) = false)
    (hbytes : s.operandBytes (operandCount (s.readByte s.pc)) = .ok operands)
    (hsub : s.unimplementedSub (s.readByte s.pc) operands = true) :
    s.fetch = .error (.unmappedOpcode (s.readByte s.pc) s.pc) := by
  obtain ⟨w, hw⟩ := hn
  simp [State.fetch, State.advancePc_ok hw, hop, hbytes, hsub, bind, Except.bind]

theorem State.fetch_decoded (hn : ∃ w, s.Next 1 w) (hop : s.unimplementedOp (s.readByte s.pc) = false)
    (hbytes : s.operandBytes (operandCount (s.readByte s.pc)) = .ok operands)
    (hsub : s.unimplementedSub (s.readByte s.pc) operands = false)
    (hd : decode (s.readByte s.pc :: operands) = .ok (i, r)) : s.fetch = .ok i := by
  obtain ⟨w, hw⟩ := hn
  simp [State.fetch, State.advancePc_ok hw, hop, hbytes, hsub, hd, bind, Except.bind]

/-- An opcode with no operand byte. -/
theorem State.fetch_op (hn : ∃ w, s.Next 1 w) (hop : s.unimplementedOp (s.readByte s.pc) = false)
    (hp : primary (s.readByte s.pc) = .op i) : s.fetch = .ok i := by
  have hcount : operandCount (s.readByte s.pc) = 0 := by simp only [operandCount, hp]
  refine State.fetch_decoded (operands := []) hn hop ?_ ?_ (decode_op hp [])
  · rw [hcount, State.operandBytes]
  · rw [State.unimplementedSub, List.any_nil, Bool.and_false]

theorem State.unimplementedOp_iff {op : Byte} : s.unimplementedOp op = true ↔ op ≠ 0x00 ∧ op ∈ s.cfg.unimplemented := by
  simp [State.unimplementedOp]

theorem committed_eq_commitEi (b : Bool) (t : State) : committed b t = t.commitEi b := by
  simp [committed, State.commitEi, State.enableInterrupts]

/-- The phases after a CPU phase that raised nothing. -/
theorem State.complete_finishPhases (s t : State) : Finishes s t (s.complete (t.finishPhases intHook s.eiPending)) := by
  unfold Finishes
  rw [committed_eq_commitEi]
  constructor
  · intro u hu
    simp [State.finishPhases, hu, bind, Except.bind, State.complete]
  · intro f hf
    simp [Raises, State.finishPhases, hf, bind, Except.bind, State.complete, State.takeFault]

/-- A step whose instruction raises nothing. -/
theorem step_finishes (hf : s.fault = none) (hh : s.halted = false) (hi : s.fetch = .ok i) (he : exec i s = .next t)
    (ht : t.fault = none) : Finishes s t (step s) := by
  rw [step_fetch_ok hf hh hi, he, State.afterInstr_next intHook ht]
  exact s.complete_finishPhases t

/-- A step whose instruction raises a fault. -/
theorem step_raises (hf : s.fault = none) (hh : s.halted = false) (hi : s.fetch = .ok i) (he : exec i s = .next t)
    (ht : t.fault = some f) : Raises s (step s) f := by
  rw [step_fetch_ok hf hh hi, he, State.afterInstr_fault intHook ht]
  rfl

/-- A step whose fetch raises a fault. -/
theorem step_raises_of_fetch (hf : s.fault = none) (hh : s.halted = false) (h : s.fetch = .error f) : Raises s (step s) f :=
  step_fetch_error hf hh h

/-- An unassigned opcode raises UnmappedOpcode, at the fetch where it is outside IMPLEMENTED and as an instruction otherwise. -/
theorem step_illegal (hf : s.fault = none) (hh : s.halted = false) (hop : s.readByte s.pc ∈ illegalOpcodes)
    (hn : ∃ w, s.Next 1 w) : Raises s (step s) (.unmappedOpcode (s.readByte s.pc) s.pc) := by
  cases hu : s.unimplementedOp (s.readByte s.pc) with
  | true => exact step_raises_of_fetch hf hh (State.fetch_unmapped hn hu)
  | false => exact step_raises hf hh (State.fetch_op hn hu (primary_illegal hop)) rfl rfl

/-- A 0xCB pair outside IMPLEMENTED is fetched whole and then raises UnmappedOpcode of 0xCB (30_encoding.md R115). -/
theorem State.fetch_cb_unmapped {w : Word} (hw : s.Next 1 w) (hop : s.readByte s.pc = 0xCB)
    (hin : 0xCB ∉ s.cfg.unimplemented) (hsub : s.readByte w ∈ s.cfg.unimplementedCb) :
    s.fetch = .error (.unmappedOpcode 0xCB s.pc) := by
  have ha : s.addrAdd s.pc 1 = .ok w := State.addrAdd_next hw
  have hbytes : s.operandBytes (operandCount (s.readByte s.pc)) = .ok [s.readByte w] := by
    rw [hop, show operandCount 0xCB = 1 from rfl, State.operandBytes, ha]
    rfl
  rw [← hop] at hin ⊢
  refine State.fetch_unmappedSub ⟨w, hw⟩ ?_ hbytes ?_
  · exact Bool.eq_false_iff.2 fun h => hin (State.unimplementedOp_iff.1 h).2
  · simp [State.unimplementedSub, hop, hsub]

end Sys2Proof.Machine
end

section
/-! PROOFS. The statements of 30_encoding.md, settled. -/

open Sys2Proof Sys2Proof.Machine Sys2Proof.Spec

/-- Settles O8: each encoding evaluated. -/
theorem sampleWordsDecode : Obligations.SampleWordsDecode :=
  ⟨rfl, rfl, rfl, rfl, rfl, rfl, rfl, rfl, rfl, rfl, rfl, rfl, rfl,
    rfl, rfl, rfl, rfl, rfl, rfl, rfl, rfl, rfl, rfl, rfl, rfl, rfl⟩

/-- Settles O9: `decode_encode`, and for PREFIX CB the encoding of what its sub-opcode selects. -/
theorem decodeOfEncodeIsIdentity : Obligations.DecodeOfEncodeIsIdentity := by
  unfold Obligations.DecodeOfEncodeIsIdentity
  refine fun i rest h => ⟨fun hne => ?_, ?_⟩
  · rw [decode_encode i rest h, Instr.canonical_of_ne_prefixCb hne]
  · rintro sub rfl
    obtain ⟨_, henc⟩ := cbInstr_encodedAs sub
    exact ⟨decode_encode _ rest h, henc⟩

/-- Settles O10: what an opcode selects is encoded as that opcode and the operand that decoding took. -/
theorem encodeOfDecodeIsIdentity : Obligations.EncodeOfDecodeIsIdentity := by
  unfold Obligations.EncodeOfDecodeIsIdentity
  intro bytes rest i h
  obtain ⟨_, ⟨hwf, rfl⟩, hbytes⟩ := encodedAs_of_decode h
  exact ⟨hwf, hbytes⟩

/-- Settles O11: an unassigned opcode by the map, the other direction by the encoding of what was decoded, and the step by where
the opcode is refused. -/
theorem unassignedOpcodesRaiseUnmapped : Obligations.UnassignedOpcodesRaiseUnmapped := by
  unfold Obligations.UnassignedOpcodesRaiseUnmapped
  refine ⟨fun op rest hop => decode_op (primary_illegal hop) rest, ?_, fun _ _ => rfl,
    fun s hf hh hop hn => step_illegal hf hh hop hn⟩
  intro op x rest r h
  obtain ⟨_, ⟨hwf, rfl⟩, hbytes⟩ := encodedAs_of_decode h
  cases hbytes
  exact wellFormed_illegal.1 hwf

/-- Settles O12: the operand bytes taken are as many as the opcode's descriptor counts. -/
theorem firstByteGivesLength : Obligations.FirstByteGivesLength := by
  unfold Obligations.FirstByteGivesLength
  intro op rest r i h
  have hdisjoint : ∀ op ∈ threeByteOpcodes, op ∉ twoByteOpcodes := by decide
  rw [length_of_decode h, lengthOf, operandCount_eq]
  refine ⟨fun h2 => ?_, fun h3 => ?_, fun h2 h3 => ?_⟩
  · rw [if_pos h2]
  · rw [if_neg (hdisjoint op h3), if_pos h3]
  · rw [if_neg h2, if_neg h3]

/-- Settles O14: the fetch tests IMPLEMENTED, for a 0xCB pair after its sub-opcode is read, and never for 0x00. -/
theorem outsideImplementedRaisesUnmapped : Obligations.OutsideImplementedRaisesUnmapped := by
  unfold Obligations.OutsideImplementedRaisesUnmapped
  refine ⟨⟨rfl, rfl⟩, fun s hf hh hn hne hop => ?primary, fun s w hf hh hw hop hin hsub => ?cb, fun s w hf hh hw hop => ?nop⟩
  case primary => exact step_raises_of_fetch hf hh (State.fetch_unmapped hn (State.unimplementedOp_iff.2 ⟨hne, hop⟩))
  case cb => exact step_raises_of_fetch hf hh (State.fetch_cb_unmapped hw hop hin hsub)
  case nop =>
    have hu : s.unimplementedOp (s.readByte s.pc) = false := by rw [hop]; rfl
    have hp : primary (s.readByte s.pc) = .op .nop := by rw [hop]; rfl
    exact step_finishes hf hh (State.fetch_op ⟨w, hw⟩ hu hp) (State.retire_ok hw s) hf

end

section
/-! PROOFS. CPU control: every unfaulted state steps, the bytes at PC are what a fetch decodes, the halted step, the handlers of
HALT and STOP, and the 0xCB sub-opcodes (40_engine.md R130 to R143). -/

namespace Sys2Proof.Machine

open Sys2Proof.Spec

variable {s t : State} {f : Fault} {i : Instr} {operands : List Byte} {w : Word}

/-! Every unfaulted state steps. -/

theorem State.complete_next (s : State) (r : Except Fault State) : ∃ t, s.complete r = .next t := by
  cases r with
  | ok t => exact ⟨t, rfl⟩
  | error f => exact ⟨_, rfl⟩

theorem State.afterInstr_next_state (s t : State) : ∃ u, s.afterInstr intHook (.next t) = .next u := by
  cases ht : t.fault with
  | some f => exact ⟨_, State.afterInstr_fault intHook ht⟩
  | none =>
    rw [State.afterInstr_next intHook ht]
    exact s.complete_next _

theorem step_of_fault (h : s.fault = some f) : step s = .fault f := by simp only [step, stepWith, h]

/-- Each of the three branches of the CPU phase ends in a next state: halted, a fetch that faults, an instruction. -/
theorem step_next_state (hf : s.fault = none) : ∃ t, step s = .next t := by
  cases hh : s.halted with
  | true =>
    rw [step_halted hf hh]
    exact s.complete_next _
  | false =>
    cases hfetch : s.fetch with
    | error f => exact ⟨_, step_fetch_error hf hh hfetch⟩
    | ok i =>
      obtain ⟨u, hu, -⟩ := exec_cpuStep i s
      rw [step_fetch_ok hf hh hfetch, hu]
      exact s.afterInstr_next_state u

/-! Fetching the bytes at PC. -/

theorem State.next_zero (h : s.Next 0 w) : w = s.pc := by
  obtain ⟨hw, -⟩ := h
  apply BitVec.eq_of_toNat_eq
  omega

theorem State.BytesAtPc.opcode {op : Byte} (h : s.BytesAtPc (op :: operands)) : s.readByte s.pc = op := by
  obtain ⟨a, ha, hread⟩ := h 0 op rfl
  rw [← State.next_zero ha, hread]

theorem State.BytesAtPc.operand {op v : Byte} {k : Nat} (h : s.BytesAtPc (op :: operands)) (hv : operands[k]? = some v) :
    ∃ a, s.addrAdd s.pc (k + 1 : Nat) = .ok a ∧ s.readByte a = v := by
  obtain ⟨a, ha, hread⟩ := h (k + 1) v hv
  exact ⟨a, State.addrAdd_next ha, hread⟩

theorem State.BytesAtPc.operandBytes {op : Byte} (h : s.BytesAtPc (op :: operands)) (hlen : operands.length ≤ 2) :
    s.operandBytes operands.length = .ok operands := by
  match operands, hlen with
  | [], _ => rfl
  | [x], _ =>
    obtain ⟨a, ha, rfl⟩ := h.operand (k := 0) rfl
    simp only [Nat.zero_add, Nat.cast_one] at ha
    simp [State.operandBytes, ha, bind, Except.bind]
  | [x, y], _ =>
    obtain ⟨a, ha, rfl⟩ := h.operand (k := 0) rfl
    obtain ⟨b, hb, rfl⟩ := h.operand (k := 1) rfl
    simp only [Nat.zero_add, Nat.cast_one, Nat.reduceAdd, Nat.cast_ofNat] at ha hb
    simp [State.operandBytes, ha, hb, bind, Except.bind]

theorem State.Implements.unimplementedOp {op : Byte} (h : s.Implements (op :: operands)) : s.unimplementedOp op = false := by
  refine Bool.eq_false_iff.2 fun hop => ?_
  obtain ⟨hne, hmem⟩ := State.unimplementedOp_iff.1 hop
  exact (h.1 op rfl).elim hne (absurd hmem)

theorem State.Implements.unimplementedSub {op : Byte} (h : s.Implements (op :: operands))
    (hlen : operands.length = operandCount op) : s.unimplementedSub op operands = false := by
  by_cases hop : op = 0xCB
  · subst hop
    obtain ⟨sub, rfl⟩ := List.length_eq_one_iff.1 (hlen.trans (show operandCount 0xCB = 1 from rfl))
    simpa [State.unimplementedSub] using h.2 sub rfl rfl
  · rw [State.unimplementedSub, beq_false_of_ne hop, Bool.false_and]

theorem operandCount_le (op : Byte) : operandCount op ≤ 2 := by
  unfold operandCount
  split <;> decide

/-- Fetching reads the bytes that stand at PC and decodes them (40_engine.md R132 to R134). -/
theorem State.fetch_bytesAtPc {bytes : List Byte} (hd : decode bytes = .ok (i, [])) (hb : s.BytesAtPc bytes)
    (himp : s.Implements bytes) (hn : ∃ w, s.Next 1 w) : s.fetch = .ok i := by
  cases bytes with
  | nil => cases hd
  | cons op operands =>
    have hlen : operands.length = operandCount op := by
      have := length_of_decode hd
      simp only [List.length_cons, List.length_nil, lengthOf] at this
      omega
    have hbytes := hb.operandBytes (hlen ▸ operandCount_le op)
    obtain rfl := hb.opcode
    exact State.fetch_decoded hn himp.unimplementedOp (hlen ▸ hbytes) (himp.unimplementedSub hlen) hd

/-! The halted step. -/

@[simp] theorem State.commitEi_pc (b : Bool) : (s.commitEi b).pc = s.pc := by
  unfold State.commitEi
  split <;> rfl

@[simp] theorem State.commitEi_halted (b : Bool) : (s.commitEi b).halted = s.halted := by
  unfold State.commitEi
  split <;> rfl

theorem State.wake_of_inactive (h : active s = 0) : s.wake = s := if_pos h

theorem State.wake_of_active (h : active s ≠ 0) : s.wake = { s with halted := false } := if_neg h

@[simp] theorem State.wake_pc : s.wake.pc = s.pc := by
  unfold State.wake
  split <;> rfl

theorem State.wake_halted (h : s.halted = true) : s.wake.halted = decide (active s = 0) := by
  by_cases ha : active s = 0
  · rw [State.wake_of_inactive ha, h, decide_eq_true ha]
  · rw [State.wake_of_active ha, decide_eq_false ha]

theorem step_halted_finishes (hf : s.fault = none) (hh : s.halted = true) : Finishes s s.wake (step s) := by
  rw [step_halted hf hh]
  exact s.complete_finishPhases s.wake

/-- The phases after a CPU phase that left `t` write neither PC nor `halted`. -/
theorem State.finishPhases_frame (s t : State) :
    Answers (fun u => (u.pc = t.pc ∧ u.halted = t.halted) ∨ ∃ f, u = s.takeFault f)
      (s.complete (t.finishPhases intHook s.eiPending)) := by
  rcases t.finishPhases_cases s.eiPending with ⟨u, -, hu, he⟩ | ⟨f, -, he⟩
  · rw [he]
    refine ⟨_, rfl, .inl ?_⟩
    rw [ppuPhase_pc, ppuPhase_halted, hu]
    exact ⟨State.commitEi_pc _, State.commitEi_halted _⟩
  · rw [he]
    exact ⟨_, rfl, .inr ⟨f, rfl⟩⟩

theorem step_halted_pc_halted (hf : s.fault = none) (hh : s.halted = true) (h : step s = .next t) :
    t.pc = s.pc ∧ (t.fault = none → t.halted = decide (active s = 0)) := by
  rw [step_halted hf hh] at h
  rcases (s.finishPhases_frame s.wake).of_next h with ⟨hpc, hhalt⟩ | ⟨f, rfl⟩
  · exact ⟨hpc.trans State.wake_pc, fun _ => hhalt.trans (State.wake_halted hh)⟩
  · exact ⟨rfl, nofun⟩

/-! The handlers of HALT, STOP and EI. -/

theorem State.haltOrRefuse_inactive (h : active s = 0) : s.haltOrRefuse = .ok { s with halted := true } := if_pos h

theorem State.haltOrRefuse_ime (h : active s ≠ 0) (hime : s.ime = true) : s.haltOrRefuse = .ok s :=
  (if_neg h).trans (if_pos hime)

theorem State.haltOrRefuse_bug (h : active s ≠ 0) (hime : s.ime = false) :
    s.haltOrRefuse = .error (.unmodelled 0x76 s.pc) :=
  (if_neg h).trans (if_neg (Bool.eq_false_iff.1 hime))

theorem State.stopByPolicy_refuse (h : s.cfg.stopPolicy = .refuse) : s.stopByPolicy = .error (.unmodelled 0x10 s.pc) := by
  rw [State.stopByPolicy, h]

theorem State.stopByPolicy_nop (h : s.cfg.stopPolicy = .nop) : s.stopByPolicy = .ok s := by
  rw [State.stopByPolicy, h]

theorem State.requestEnable_zero (h : s.cfg.eiDelay = .zero) : s.requestEnable = { s with ime := true } := by
  rw [State.requestEnable, h]

theorem State.requestEnable_one (h : s.cfg.eiDelay = .one) : s.requestEnable = { s with eiPending := true } := by
  rw [State.requestEnable, h]

/-! The 0xCB sub-opcodes. -/

theorem exec_ofShiftReg (k : ShiftOp) (r : R8) (s : State) : exec (.ofShiftReg k r) s = shiftReg k r s := by
  cases k <;> cases r <;> rfl

theorem exec_ofShiftMemHl (k : ShiftOp) (s : State) : exec (.ofShiftMemHl k) s = shiftMemHl k s := by
  cases k <;> rfl

theorem exec_ofBitReg (n : Fin 8) (r : R8) (s : State) : exec (.ofBitReg n r) s = bitReg n r s := by
  fin_cases n <;> cases r <;> rfl

theorem exec_ofBitMemHl (n : Fin 8) (s : State) : exec (.ofBitMemHl n) s = bitMemHl n s := by
  fin_cases n <;> rfl

theorem exec_ofResReg (n : Fin 8) (r : R8) (s : State) : exec (.ofResReg n r) s = resReg n r s := by
  fin_cases n <;> cases r <;> rfl

theorem exec_ofResMemHl (n : Fin 8) (s : State) : exec (.ofResMemHl n) s = resMemHl n s := by
  fin_cases n <;> rfl

theorem exec_ofSetReg (n : Fin 8) (r : R8) (s : State) : exec (.ofSetReg n r) s = setReg8 n r s := by
  fin_cases n <;> cases r <;> rfl

theorem exec_ofSetMemHl (n : Fin 8) (s : State) : exec (.ofSetMemHl n) s = setMemHl n s := by
  fin_cases n <;> rfl

/-- PREFIX CB and the row of its sub-opcode choose by the same fields (40_engine.md R143; 30_encoding.md R110). -/
theorem exec_cbInstr (sub : Byte) (s : State) : exec (cbInstr sub) s = execSubOpcode sub s := by
  cases hr : r8OfField (Bits.fieldZ sub) with
  | some r =>
    rcases fieldX_cases sub with hx | hx | hx | hx <;> simp only [cbInstr, execSubOpcode, hx, hr]
    · exact exec_ofShiftReg _ r s
    · exact exec_ofBitReg _ r s
    · exact exec_ofResReg _ r s
    · exact exec_ofSetReg _ r s
  | none =>
    rcases fieldX_cases sub with hx | hx | hx | hx <;> simp only [cbInstr, execSubOpcode, hx, hr]
    · exact exec_ofShiftMemHl _ s
    · exact exec_ofBitMemHl _ s
    · exact exec_ofResMemHl _ s
    · exact exec_ofSetMemHl _ s

/-- A sub-opcode selects one of eight forms (30_encoding.md R110). -/
theorem execSubOpcode_forms {P : (State → Out) → Prop} (hshift : ∀ k r, P (shiftReg k r)) (hshiftHl : ∀ k, P (shiftMemHl k))
    (hbit : ∀ n r, P (bitReg n r)) (hbitHl : ∀ n, P (bitMemHl n)) (hres : ∀ n r, P (resReg n r)) (hresHl : ∀ n, P (resMemHl n))
    (hset : ∀ n r, P (setReg8 n r)) (hsetHl : ∀ n, P (setMemHl n)) (sub : Byte) : P (execSubOpcode sub) := by
  change P fun s => execSubOpcode sub s
  cases hr : r8OfField (Bits.fieldZ sub) with
  | some r =>
    rcases fieldX_cases sub with hx | hx | hx | hx <;> simp only [execSubOpcode, hx, hr]
    · exact hshift _ r
    · exact hbit _ r
    · exact hres _ r
    · exact hset _ r
  | none =>
    rcases fieldX_cases sub with hx | hx | hx | hx <;> simp only [execSubOpcode, hx, hr]
    · exact hshiftHl _
    · exact hbitHl _
    · exact hresHl _
    · exact hsetHl _

theorem State.StoredByte.fault {a : Word} {v : Byte} (h : s.StoredByte t a v) : t.fault = s.fault := by
  rw [h.1]

/-- PC stands at `w` and no fault was recorded since `s`. -/
def State.CompletedAt (s : State) (w : Word) (t : State) : Prop := t.pc = w ∧ t.fault = s.fault

theorem State.retire_completedAt {len : Nat} {u : State} (hn : s.Next len w) (hu : u.fault = s.fault) :
    Answers (s.CompletedAt w) (s.retire len (.ok u)) :=
  ⟨_, State.retire_ok hn u, rfl, hu⟩

theorem State.retire_writeByte_completedAt {len : Nat} {a : Word} {v : Byte} (hn : s.Next len w)
    (hs : s.storeFault a v = none) : Answers (s.CompletedAt w) (s.retire len (s.writeByte a v)) := by
  obtain ⟨u, hu, hstored⟩ := State.writeByte_ok hs
  rw [hu]
  exact State.retire_completedAt hn hstored.fault

theorem shiftMemHl_completedAt (k : ShiftOp) (hn : s.Next 2 w) (hs : ∀ v, s.storeFault s.hl v = none) :
    Answers (s.CompletedAt w) (shiftMemHl k s) := by
  obtain ⟨u, hu, hstored⟩ := State.writeByte_ok (hs (shift8 k (s.readByte s.hl) (flagC s.f)).1)
  rw [shiftMemHl, hu]
  exact State.retire_completedAt hn hstored.fault

/-- Only the forms at HL have a store, so PREFIX CB completes where no store there raises a fault. -/
theorem execSubOpcode_completedAt (sub : Byte) (hn : s.Next 2 w) (hs : ∀ v, s.storeFault s.hl v = none) :
    Answers (s.CompletedAt w) (execSubOpcode sub s) := by
  refine execSubOpcode_forms (P := fun meaning => Answers (s.CompletedAt w) (meaning s)) ?shift ?shiftHl ?bit ?bitHl ?res ?resHl
    ?set ?setHl sub
  case shift => exact fun k r => State.retire_completedAt hn (s.setR8_fault r _)
  case shiftHl => exact fun k => shiftMemHl_completedAt k hn hs
  case bit => exact fun n r => State.retire_completedAt hn rfl
  case bitHl => exact fun n => State.retire_completedAt hn rfl
  case res => exact fun n r => State.retire_completedAt hn (s.setR8_fault r _)
  case resHl => exact fun n => State.retire_writeByte_completedAt hn (hs _)
  case set => exact fun n r => State.retire_completedAt hn (s.setR8_fault r _)
  case setHl => exact fun n => State.retire_writeByte_completedAt hn (hs _)

end Sys2Proof.Machine
end

section
/-! PROOFS. The end of every instruction that is not PC-mutating: PC moves by the length of its encoding, after a handler whose
completion does not depend on PC (40_engine.md R135); and the PC-mutating instructions where `next` is out of range. -/

namespace Sys2Proof.Machine

open Sys2Proof.Spec

variable {s t : State} {f : Fault} {i : Instr}

/-! The address of the next instruction out of range. -/

theorem State.addrAdd_outOfRange {len : Nat} (h : s.OutOfRange (s.pc.toNat + len)) :
    s.addrAdd s.pc len = .error (.addressRange (s.pc.toNat + len)) :=
  State.addr16_error h

theorem State.retire_outOfRange {len : Nat} (h : s.OutOfRange (s.pc.toNat + len)) (t : State) :
    s.retire len (.ok t) = .next (s.takeFault (.addressRange (s.pc.toNat + len))) := by
  simp [State.retire, State.complete, State.addrAdd_outOfRange h, bind, Except.bind]

/-! Computations that raise nothing. -/

/-- The computation raises nothing. -/
def Completes {α : Type} (r : Except Fault α) : Prop := ∃ x, r = .ok x

theorem completes_ok {α : Type} (x : α) : Completes (.ok x) := ⟨x, rfl⟩

theorem not_completes_error {α : Type} (f : Fault) : ¬Completes (.error f : Except Fault α) := nofun

theorem completes_bind {α β : Type} {x : Except Fault α} {g : α → Except Fault β} :
    Completes (x >>= g) ↔ ∃ a, x = .ok a ∧ Completes (g a) := by
  cases x with
  | ok a => exact ⟨fun h => ⟨a, rfl, h⟩, fun ⟨_, ha, h⟩ => by cases ha; exact h⟩
  | error f => exact ⟨fun h => absurd h (not_completes_error f), nofun⟩

theorem completes_bind_ok {α β : Type} {x : Except Fault α} {g : α → β} :
    Completes (x >>= fun a => .ok (g a)) ↔ Completes x :=
  completes_bind.trans ⟨fun ⟨a, ha, _⟩ => ⟨a, ha⟩, fun ⟨a, ha⟩ => ⟨a, ha, completes_ok _⟩⟩

/-- Whether a store completes, its address and the configuration decide. -/
theorem State.completes_writeByte_congr {a : Word} {v v' : Byte} (hcfg : s.cfg = t.cfg) (h : Completes (s.writeByte a v)) :
    Completes (t.writeByte a v') := by
  rcases s.writeByte_cases a v with ⟨f, -, he⟩ | ⟨hn, -⟩
  · exact absurd (he ▸ h) (not_completes_error f)
  · rw [State.storeFault_congr hcfg] at hn
    obtain ⟨u, hu, -⟩ := State.writeByte_ok (State.storeFault_none hn v')
    exact ⟨u, hu⟩

theorem State.completes_writeShort_congr {a v v' : Word} (hcfg : s.cfg = t.cfg)
    (h : Completes (s.writeShort .little a v)) : Completes (t.writeShort .little a v') := by
  obtain ⟨m, hm, h⟩ := completes_bind.1 h
  obtain ⟨a1, ha, h⟩ := completes_bind.1 h
  obtain ⟨m', hm'⟩ : Completes (t.writeByte a (Bits.lo v')) := State.completes_writeByte_congr hcfg ⟨m, hm⟩
  have hmm : m.cfg = m'.cfg :=
    (State.writeByte_memoryStep hm).cfg.trans (hcfg.trans (State.writeByte_memoryStep hm').cfg.symm)
  have ha' : m'.addrAdd a 1 = .ok a1 := (State.addr16_congr hmm _).symm.trans ha
  exact completes_bind.2 ⟨m', hm', completes_bind.2 ⟨a1, ha', State.completes_writeByte_congr hmm h⟩⟩

/-! Handlers that do not look at PC to complete. -/

/-- Where the handler completes does not depend on PC. -/
def PcBlind {α : Type} (r : State → Except Fault α) : Prop :=
  ∀ (s : State) (q : Word), Completes (r { s with pc := q }) → Completes (r s)

section PcBlind

variable {α β : Type} {r : State → Except Fault α}

theorem PcBlind.ok (g : State → α) : PcBlind fun s => .ok (g s) := fun s _ _ => completes_ok (g s)

theorem PcBlind.error (f : State → Fault) : PcBlind (α := α) fun s => .error (f s) := fun _ _ h =>
  absurd h (not_completes_error _)

/-- A handler whose only computation that can fault is `r`. -/
theorem PcBlind.then_ok (h : PcBlind r) (g : State → α → β) : PcBlind fun s => r s >>= fun x => .ok (g s x) := fun s q hq =>
  completes_bind_ok.2 (h s q (completes_bind_ok.1 hq))

theorem PcBlind.ite {c : State → Prop} [∀ s, Decidable (c s)] {r' : State → Except Fault α}
    (hc : ∀ s q, c { s with pc := q } ↔ c s) (h : PcBlind r) (h' : PcBlind r') : PcBlind fun s => if c s then r s else r' s := by
  intro s q hq
  simp only [hc] at hq
  split at hq <;> simp only [*, if_true, if_false]
  · exact h s q hq
  · exact h' s q hq

end PcBlind

/-- A store, possibly after the flags were written. -/
theorem PcBlind.writeByte (g : State → State) (a : State → Word) (v : State → Byte) (hg : ∀ s, (g s).cfg = s.cfg)
    (ha : ∀ s q, a { s with pc := q } = a s) : PcBlind fun s => (g s).writeByte (a s) (v s) := by
  intro s q h
  have hcfg : (g { s with pc := q }).cfg = (g s).cfg := (hg _).trans (hg s).symm
  simp only [ha] at h
  exact State.completes_writeByte_congr hcfg h

theorem PcBlind.writeShort (a : Word) (v : State → Word) : PcBlind fun s => s.writeShort .little a (v s) := by
  intro s q h
  have hcfg : State.cfg { s with pc := q } = s.cfg := rfl
  exact State.completes_writeShort_congr hcfg h

theorem PcBlind.push16 (v : State → Word) : PcBlind fun s => s.push16 (v s) := by
  intro s q h
  obtain ⟨sp, hsp, h⟩ := completes_bind.1 h
  have hcfg : State.cfg { s with pc := q, sp := sp } = State.cfg { s with sp := sp } := rfl
  exact completes_bind.2 ⟨sp, hsp, State.completes_writeShort_congr hcfg h⟩

theorem PcBlind.pop16 : PcBlind State.pop16 := by
  intro s q h
  obtain ⟨v, hv, h⟩ := completes_bind.1 h
  exact completes_bind.2 ⟨v, hv, completes_bind_ok.2 (completes_bind_ok.1 h)⟩

theorem PcBlind.stopByPolicy : PcBlind State.stopByPolicy := by
  intro s q h
  cases hp : s.cfg.stopPolicy with
  | refuse => exact absurd (State.stopByPolicy_refuse (s := { s with pc := q }) hp ▸ h) (not_completes_error _)
  | nop => exact ⟨s, State.stopByPolicy_nop hp⟩

theorem PcBlind.haltOrRefuse : PcBlind State.haltOrRefuse :=
  .ite (fun _ _ => .rfl) (.ok _) (.ite (fun _ _ => .rfl) (.ok _) (.error _))

/-! The end of an instruction that is not PC-mutating. -/

/-- The meaning is a handler that completes wherever it stands, and then PC moved by `len` (40_engine.md R135). -/
def RetiresBy (len : Nat) (meaning : State → Out) : Prop :=
  ∃ r, PcBlind r ∧ ∀ s, meaning s = s.retire len (r s)

theorem PcBlind.retires {r : State → Except Fault State} {len : Nat} (h : PcBlind r) :
    RetiresBy len fun s => s.retire len (r s) :=
  ⟨r, h, fun _ => rfl⟩

theorem RetiresBy.next {len : Nat} {meaning : State → Out} (h : RetiresBy len meaning) (ht : meaning s = .next t)
    (hf : t.fault = none) : s.Next len t.pc := by
  obtain ⟨r, -, hr⟩ := h
  rw [hr] at ht
  rcases s.retire_cases len (r s) with ⟨u, w, -, hw, he⟩ | ⟨f, he⟩
  · cases he.symm.trans ht
    exact hw
  · cases he.symm.trans ht
    cases hf

/-- The same instruction completes at some PC, so that only the address of the next one can fault. -/
theorem RetiresBy.raises {len : Nat} {meaning : State → Out} {q : Word} (h : RetiresBy len meaning)
    (ht : meaning { s with pc := q } = .next t) (hf : t.fault = none) (hout : s.OutOfRange (s.pc.toNat + len)) :
    Raises s (meaning s) (.addressRange (s.pc.toNat + len)) := by
  obtain ⟨r, hblind, hr⟩ := h
  rw [hr] at ht
  rcases State.retire_cases { s with pc := q } len (r { s with pc := q }) with ⟨u, w, hu, -, -⟩ | ⟨f, he⟩
  · obtain ⟨v, hv⟩ := hblind s q ⟨u, hu⟩
    rw [hr, hv]
    exact State.retire_outOfRange hout v
  · cases he.symm.trans ht
    cases hf

theorem shiftReg_retires (k : ShiftOp) (r : R8) : RetiresBy 2 (shiftReg k r) := PcBlind.retires (.ok _)

theorem shiftMemHl_retires (k : ShiftOp) : RetiresBy 2 (shiftMemHl k) :=
  ((PcBlind.writeByte (fun s => s) State.hl _ (fun _ => rfl) fun _ _ => rfl).then_ok _).retires

theorem bitReg_retires (n : Fin 8) (r : R8) : RetiresBy 2 (bitReg n r) := PcBlind.retires (.ok _)

theorem bitMemHl_retires (n : Fin 8) : RetiresBy 2 (bitMemHl n) := PcBlind.retires (.ok _)

theorem incAtHl_retires : RetiresBy 1 incAtHl :=
  (PcBlind.writeByte (fun s => { s with f := (inc8 (s.readByte s.hl) s.f).2 }) State.hl _ (fun _ => rfl) fun _ _ => rfl).retires

theorem decAtHl_retires : RetiresBy 1 decAtHl :=
  (PcBlind.writeByte (fun s => { s with f := (dec8 (s.readByte s.hl) s.f).2 }) State.hl _ (fun _ => rfl) fun _ _ => rfl).retires

theorem resMemHl_retires (n : Fin 8) : RetiresBy 2 (resMemHl n) :=
  (PcBlind.writeByte (fun s => s) State.hl _ (fun _ => rfl) fun _ _ => rfl).retires

theorem setMemHl_retires (n : Fin 8) : RetiresBy 2 (setMemHl n) :=
  (PcBlind.writeByte (fun s => s) State.hl _ (fun _ => rfl) fun _ _ => rfl).retires

theorem execSubOpcode_retires (sub : Byte) : RetiresBy 2 (execSubOpcode sub) :=
  execSubOpcode_forms shiftReg_retires shiftMemHl_retires bitReg_retires bitMemHl_retires
    (fun _ _ => PcBlind.retires (.ok _)) resMemHl_retires (fun _ _ => PcBlind.retires (.ok _)) setMemHl_retires sub

theorem Cond.exists_iff {P : Cond → Prop} : (∃ k, P k) ↔ P .nz ∨ P .z ∨ P .nc ∨ P .c := by
  refine ⟨fun ⟨k, h⟩ => ?_, ?_⟩
  · cases k <;> simp [h]
  · rintro (h | h | h | h) <;> exact ⟨_, h⟩

theorem pcMutating_restart (h : ∃ t, i = .ofRestart t) : PcMutating i := by
  simp [PcMutating, h]

/-- Every instruction that is not PC-mutating moves PC by the length of its encoding. The cases are grouped by the handler's only
computation that can fault. -/
theorem exec_retires (hpc : ¬PcMutating i) : RetiresBy (encode i).length (exec i) := by
  cases i with
  | nop | di | ei | ldBB | ldBC | ldBD | ldBE | ldBH | ldBL | ldBA | ldCB | ldCC | ldCD | ldCE | ldCH | ldCL | ldCA
  | ldDB | ldDC | ldDD | ldDE | ldDH | ldDL | ldDA | ldEB | ldEC | ldED | ldEE | ldEH | ldEL | ldEA | ldHB | ldHC
  | ldHD | ldHE | ldHH | ldHL | ldHA | ldLB | ldLC | ldLD | ldLE | ldLH | ldLL | ldLA | ldAB | ldAC | ldAD | ldAE
  | ldAH | ldAL | ldAA | ldBN | ldCN | ldDN | ldEN | ldHN | ldLN | ldAN | ldBMemHl | ldCMemHl | ldDMemHl | ldEMemHl
  | ldHMemHl | ldLMemHl | ldAMemHl | res0B | res0C | res0D | res0E | res0H | res0L | res0A | res1B | res1C | res1D
  | res1E | res1H | res1L | res1A | res2B | res2C | res2D | res2E | res2H | res2L | res2A | res3B | res3C | res3D
  | res3E | res3H | res3L | res3A | res4B | res4C | res4D | res4E | res4H | res4L | res4A | res5B | res5C | res5D
  | res5E | res5H | res5L | res5A | res6B | res6C | res6D | res6E | res6H | res6L | res6A | res7B | res7C | res7D
  | res7E | res7H | res7L | res7A | set0B | set0C | set0D | set0E | set0H | set0L | set0A | set1B | set1C | set1D
  | set1E | set1H | set1L | set1A | set2B | set2C | set2D | set2E | set2H | set2L | set2A | set3B | set3C | set3D
  | set3E | set3H | set3L | set3A | set4B | set4C | set4D | set4E | set4H | set4L | set4A | set5B | set5C | set5D
  | set5E | set5H | set5L | set5A | set6B | set6C | set6D | set6E | set6H | set6L | set6A | set7B | set7C | set7D
  | set7E | set7H | set7L | set7A | ldAMemBc | ldAMemDe | ldhAMemN | ldAMemC | ldAMemNn | ldAMemHlInc | ldAMemHlDec
  | ldBcNn | ldDeNn | ldHlNn | ldSpNn | incBc | incDe | incHl | incSp | decBc | decDe | decHl | decSp | ldSpHl
  | ldHlSpE | addAB | addAC | addAD | addAE | addAH | addAL | addAA | adcAB | adcAC | adcAD | adcAE | adcAH | adcAL
  | adcAA | subB | subC | subD | subE | subH | subL | subA | sbcAB | sbcAC | sbcAD | sbcAE | sbcAH | sbcAL | sbcAA
  | andB | andC | andD | andE | andH | andL | andA | xorB | xorC | xorD | xorE | xorH | xorL | xorA | orB | orC | orD
  | orE | orH | orL | orA | cpB | cpC | cpD | cpE | cpH | cpL | cpA | addAMemHl | adcAMemHl | subMemHl | sbcAMemHl
  | andMemHl | xorMemHl | orMemHl | cpMemHl | addAN | adcAN | subN | sbcAN | andN | xorN | orN | cpN | incB | incC
  | incD | incE | incH | incL | incA | decB | decC | decD | decE | decH | decL | decA | daa | cpl | scf | ccf
  | addHlBc | addHlDe | addHlHl | addHlSp | addSpE | rlca | rrca | rla | rra =>
    exact PcBlind.retires (.ok _)
  | ldMemHlB | ldMemHlC | ldMemHlD | ldMemHlE | ldMemHlH | ldMemHlL | ldMemHlA | res0MemHl | res1MemHl | res2MemHl
  | res3MemHl | res4MemHl | res5MemHl | res6MemHl | res7MemHl | set0MemHl | set1MemHl | set2MemHl | set3MemHl
  | set4MemHl | set5MemHl | set6MemHl | set7MemHl | ldMemBcA | ldMemDeA | ldMemHlN | ldhMemNA | ldMemCA | ldMemNnA =>
    exact (PcBlind.writeByte (fun s => s) _ _ (fun _ => rfl) fun _ _ => rfl).retires
  | incMemHl => exact incAtHl_retires
  | decMemHl => exact decAtHl_retires
  | ldMemHlIncA | ldMemHlDecA =>
    exact ((PcBlind.writeByte (fun s => s) State.hl _ (fun _ => rfl) fun _ _ => rfl).then_ok _).retires
  | ldMemNnSp nn => exact (PcBlind.writeShort nn State.sp).retires
  | pushBc | pushDe | pushHl | pushAf =>
    exact (PcBlind.push16 _).retires
  | popBc | popDe | popHl | popAf =>
    exact (PcBlind.pop16.then_ok _).retires
  | stop => exact PcBlind.stopByPolicy.retires
  | halt => exact PcBlind.haltOrRefuse.retires
  | illegal => exact PcBlind.retires (.error _)
  | prefixCb sub => exact execSubOpcode_retires sub
  | rlcB | rlcC | rlcD | rlcE | rlcH | rlcL | rlcA | rrcB | rrcC | rrcD | rrcE | rrcH | rrcL | rrcA | rlB | rlC | rlD
  | rlE | rlH | rlL | rlA | rrB | rrC | rrD | rrE | rrH | rrL | rrA | slaB | slaC | slaD | slaE | slaH | slaL | slaA
  | sraB | sraC | sraD | sraE | sraH | sraL | sraA | swapB | swapC | swapD | swapE | swapH | swapL | swapA | srlB
  | srlC | srlD | srlE | srlH | srlL | srlA =>
    exact shiftReg_retires _ _
  | rlcMemHl | rrcMemHl | rlMemHl | rrMemHl | slaMemHl | sraMemHl | swapMemHl | srlMemHl =>
    exact shiftMemHl_retires _
  | bit0B | bit0C | bit0D | bit0E | bit0H | bit0L | bit0A | bit1B | bit1C | bit1D | bit1E | bit1H | bit1L | bit1A
  | bit2B | bit2C | bit2D | bit2E | bit2H | bit2L | bit2A | bit3B | bit3C | bit3D | bit3E | bit3H | bit3L | bit3A
  | bit4B | bit4C | bit4D | bit4E | bit4H | bit4L | bit4A | bit5B | bit5C | bit5D | bit5E | bit5H | bit5L | bit5A
  | bit6B | bit6C | bit6D | bit6E | bit6H | bit6L | bit6A | bit7B | bit7C | bit7D | bit7E | bit7H | bit7L | bit7A =>
    exact bitReg_retires _ _
  | bit0MemHl | bit1MemHl | bit2MemHl | bit3MemHl | bit4MemHl | bit5MemHl | bit6MemHl | bit7MemHl =>
    exact bitMemHl_retires _
  | jpNn | jpHl | jrE | callNn | ret | reti => exact absurd (by simp [PcMutating]) hpc
  | jpNzNn | jpZNn | jpNcNn | jpCNn | jrNzE | jrZE | jrNcE | jrCE | callNzNn | callZNn | callNcNn | callCNn
  | retNz | retZ | retNc | retC =>
    exact absurd (by simp [PcMutating, Cond.exists_iff, Instr.ofJpCond, Instr.ofJrCond, Instr.ofCallCond, Instr.ofRetCond]) hpc
  | rst00 | rst08 | rst10 | rst18 | rst20 | rst28 | rst30 | rst38 =>
    exact absurd (pcMutating_restart (by decide)) hpc

/-! The PC-mutating instructions that compute `next`, where it is out of range. -/

theorem exec_ofJpCond (k : Cond) (nn : Word) (s : State) : exec (.ofJpCond k nn) s = jpCond k nn s := by
  cases k <;> rfl

theorem exec_ofJrCond (k : Cond) (e : Byte) (s : State) : exec (.ofJrCond k e) s = jrCond k e s := by
  cases k <;> rfl

theorem exec_ofCallCond (k : Cond) (nn : Word) (s : State) : exec (.ofCallCond k nn) s = callCond k nn s := by
  cases k <;> rfl

theorem exec_ofRetCond (k : Cond) (s : State) : exec (.ofRetCond k) s = retCond k s := by
  cases k <;> rfl

theorem exec_ofRestart (n : Fin 8) (s : State) : exec (.ofRestart n) s = restart n s := by
  fin_cases n <;> rfl

theorem flagZ_eq_bitZ (x : Byte) : flagZ x = bitZ x := by
  have h : flagZ x = decide (x.toNat / 128 % 2 = 1) := Nat.testBit_eq_decide_div_mod_eq
  rw [h, bitZ, beq_eq_decide]

/-- A condition code read from F (47_control.md R310). -/
theorem State.cond_iff (s : State) (k : Cond) : s.cond k = true ↔ Holds k s.f := by
  cases k <;> simp [State.cond, Holds, flagZ_eq_bitZ, flagC_eq_bitC]

theorem State.skip_outOfRange {len : Nat} (h : s.OutOfRange (s.pc.toNat + len)) :
    s.skip len = .error (.addressRange (s.pc.toNat + len)) := by
  rw [State.skip, State.addrAdd_outOfRange h]
  rfl

theorem State.call_outOfRange {len : Nat} (h : s.OutOfRange (s.pc.toNat + len)) (target : Word) :
    s.call len target = .error (.addressRange (s.pc.toNat + len)) := by
  rw [State.call, State.addrAdd_outOfRange h]
  rfl

theorem State.jumpRelative_outOfRange (h : s.OutOfRange (s.pc.toNat + 2)) (e : Byte) :
    s.jumpRelative e = .error (.addressRange (s.pc.toNat + 2)) := by
  have hnext : s.addrAdd s.pc 2 = .error (.addressRange (s.pc.toNat + 2)) := State.addr16_error h
  rw [State.jumpRelative, hnext]
  rfl

theorem State.raises_complete {r : Except Fault State} (h : r = .error f) : Raises s (s.complete r) f := by
  rw [h]
  rfl

/-- A conditional instruction whose two branches raise the same fault, the taken one where its condition holds. -/
theorem State.raises_complete_ite {k : Cond} {x y : Except Fault State} (hx : Holds k s.f → x = .error f)
    (hy : y = .error f) : Raises s (s.complete (if s.cond k then x else y)) f := by
  apply State.raises_complete
  split
  next hk => exact hx ((s.cond_iff k).1 hk)
  next => exact hy

end Sys2Proof.Machine
end

section
/-! PROOFS. The statements of 40_engine.md, settled. -/

open Sys2Proof Sys2Proof.Machine Sys2Proof.Spec

/-- Settles O17: a halted step, a fetch that faults and every instruction answer a next state. -/
theorem everyUnfaultedStateSteps : Obligations.EveryUnfaultedStateSteps := by
  unfold Obligations.EveryUnfaultedStateSteps
  exact ⟨fun _ _ => step_of_fault, fun _ => step_next_state⟩

/-- Settles O23: both choose by the fields of the sub-opcode, and a form at HL is the only one that can fault. -/
theorem prefixCbRunsSubOpcode : Obligations.PrefixCbRunsSubOpcode := by
  unfold Obligations.PrefixCbRunsSubOpcode
  exact fun s nxt sub rest => ⟨rfl, (exec_cbInstr sub s).symm, execSubOpcode_completedAt sub,
    fun hf hh hn hop hin hsub => step_raises_of_fetch hf hh (State.fetch_cb_unmapped hn hop hin hsub)⟩

/-- Settles O60: `exec_retires` for the instructions that are not PC-mutating; the others compute `next` before anything else, or
where their condition fails. -/
theorem pcAdvanceByLength : Obligations.PcAdvanceByLength := by
  unfold Obligations.PcAdvanceByLength
  refine ⟨fun i s t q hpc _ => ⟨(exec_retires hpc).next, (exec_retires hpc).raises⟩,
    fun s k nn e n => ⟨fun h3 => ⟨?call, ?callCond, fun hk => ?jpCond⟩, fun h2 => ⟨?jr, ?jrCond⟩,
      fun h1 => ⟨?rst, fun hk => ?retCond⟩⟩⟩
  case call => exact State.raises_complete (State.call_outOfRange h3 nn)
  case callCond =>
    rw [exec_ofCallCond]
    exact State.raises_complete_ite (fun _ => State.call_outOfRange h3 nn) (State.skip_outOfRange h3)
  case jpCond =>
    rw [exec_ofJpCond]
    exact State.raises_complete_ite (fun h => absurd h hk) (State.skip_outOfRange h3)
  case jr => exact State.raises_complete (State.jumpRelative_outOfRange h2 e)
  case jrCond =>
    rw [exec_ofJrCond]
    exact State.raises_complete_ite (fun _ => State.jumpRelative_outOfRange h2 e) (State.skip_outOfRange h2)
  case rst =>
    rw [exec_ofRestart]
    exact State.raises_complete (State.call_outOfRange h1 _)
  case retCond =>
    rw [exec_ofRetCond]
    exact State.raises_complete_ite (fun h => absurd h hk) (State.skip_outOfRange h1)

/-- Settles O13: the fetch reads the bytes at PC and decodes them. -/
theorem stepRunsDecoded : Obligations.StepRunsDecoded := by
  unfold Obligations.StepRunsDecoded
  intro s t bytes i hf hh hd hb himp hn he
  have hi : s.fetch = .ok i := State.fetch_bytesAtPc hd hb himp hn
  exact ⟨step_finishes hf hh hi he, fun _ => step_raises hf hh hi he⟩

/-- Settles O18: NOP's handler is the identity. -/
theorem nopChangesPcOnly : Obligations.NopChangesPcOnly := by
  unfold Obligations.NopChangesPcOnly
  exact fun s nxt rest => ⟨rfl, fun hn => State.retire_ok hn s⟩

/-- Settles O19: the three branches of HALT's handler. -/
theorem haltHaltsCompletesOrRaises : Obligations.HaltHaltsCompletesOrRaises := by
  unfold Obligations.HaltHaltsCompletesOrRaises
  refine fun s nxt rest => ⟨rfl, fun hn ha => ?halts, fun hn ha hime => ?completes, fun ha hime => ?raises⟩
  case halts => exact (congrArg (s.retire 1) (State.haltOrRefuse_inactive ha)).trans (State.retire_ok hn _)
  case completes => exact (congrArg (s.retire 1) (State.haltOrRefuse_ime ha hime)).trans (State.retire_ok hn s)
  case raises => exact congrArg (s.retire 1) (State.haltOrRefuse_bug ha hime)

/-- Settles O20: the step is the later phases on the state of `wake`, and these write neither PC nor `halted`. -/
theorem haltedStepFetchesNothing : Obligations.HaltedStepFetchesNothing := by
  unfold Obligations.HaltedStepFetchesNothing
  intro s hf hh
  have hfin : Finishes s s.wake (step s) := step_halted_finishes hf hh
  refine ⟨fun ha => ?_, fun ha => ?_, fun t => step_halted_pc_halted hf hh⟩
  · rwa [State.wake_of_inactive ha] at hfin
  · rwa [State.wake_of_active ha] at hfin

/-- Settles O21: the two policies of STOP's handler. -/
theorem stopFollowsPolicy : Obligations.StopFollowsPolicy := by
  unfold Obligations.StopFollowsPolicy
  refine fun s nxt n rest => ⟨rfl, fun hp => ?refuse, fun hp hn => ?nop⟩
  case refuse => exact congrArg (s.retire 2) (State.stopByPolicy_refuse hp)
  case nop => exact (congrArg (s.retire 2) (State.stopByPolicy_nop hp)).trans (State.retire_ok hn s)

/-- Settles O22: DI's and EI's handlers, and the two tests of the commit. -/
theorem diEiAndCommitWriteIme : Obligations.DiEiAndCommitWriteIme := by
  unfold Obligations.DiEiAndCommitWriteIme
  refine fun s nxt rest => ⟨rfl, rfl, fun hn => State.retire_ok hn _, fun hn hz => ?zero, fun hn ho => ?one, fun he => ?commit,
    fun he => ?cancelled, rfl⟩
  case zero => exact (congrArg (fun t => s.retire 1 (.ok t)) (State.requestEnable_zero hz)).trans (State.retire_ok hn _)
  case one => exact (congrArg (fun t => s.retire 1 (.ok t)) (State.requestEnable_one ho)).trans (State.retire_ok hn _)
  case commit => exact if_pos he
  case cancelled => exact if_neg (Bool.eq_false_iff.1 he)

end

section
/-! PROOFS. 8-bit loads: the bytes that select them, their handlers by register, a one-byte store and then PC after it, and the
addresses of the high page (41_load8.md). -/

namespace Sys2Proof.Machine

open Sys2Proof.Spec

variable {s : State} {i : Instr}

/-! Decoding. -/

/-- An instruction encoded as its opcode alone is what that opcode decodes to: `PREFIX CB`, the only row that decodes to another,
has two bytes (log entry 11). -/
theorem decode_of_encodedAs_op {op : Byte} (h : i.EncodedAs [op]) (rest : List Byte) :
    decode (op :: rest) = .ok (i, rest) := by
  obtain ⟨hwf, hbytes⟩ := h
  have hcb : ∀ sub, i ≠ .prefixCb sub := by
    rintro sub rfl
    cases hbytes
  have hdecode := decode_encode i rest hwf
  rwa [← hbytes, Instr.canonical_of_ne_prefixCb hcb] at hdecode

theorem decode_ofLdRegMemHl (dst : R8) (rest : List Byte) :
    decode (byte (0x46 + 8 * dst.code) :: rest) = .ok (.ofLdRegMemHl dst, rest) := by
  rw [show 0x46 + 8 * dst.code = 0x40 + 8 * dst.code + 6 by omega]
  exact decode_of_encodedAs_op (ofLdRegMemHl_encodedAs dst) rest

theorem decode_ofLdRegImm (dst : R8) (n : Byte) (rest : List Byte) :
    decode (byte (0x06 + 8 * dst.code) :: n :: rest) = .ok (.ofLdRegImm dst n, rest) := by
  cases dst <;> rfl

/-- `decode_imm16` with the bytes of the operand in plain arithmetic. -/
theorem decode_imm16_byte {op : Byte} {f : Word → Instr} (h : primary op = .imm16 f) (nn : Word) (rest : List Byte) :
    decode (op :: byte (nn.toNat % 256) :: byte (nn.toNat / 256) :: rest) = .ok (f nn, rest) := by
  rw [← lo_eq, ← hi_eq]
  exact decode_imm16 h nn rest

/-! The handlers of the forms chosen by a register. -/

theorem exec_ofLdRegReg (dst src : R8) (s : State) : exec (.ofLdRegReg dst src) s = ldRegReg dst src s := by
  cases dst <;> cases src <;> rfl

theorem exec_ofLdRegImm (dst : R8) (n : Byte) (s : State) : exec (.ofLdRegImm dst n) s = ldRegImm dst n s := by
  cases dst <;> rfl

theorem exec_ofLdRegMemHl (dst : R8) (s : State) : exec (.ofLdRegMemHl dst) s = ldRegMemHl dst s := by
  cases dst <;> rfl

theorem exec_ofLdMemHlReg (src : R8) (s : State) : exec (.ofLdMemHlReg src) s = ldMemHlReg src s := by
  cases src <;> rfl

/-! One-byte stores. -/

section Store

variable {len : Nat} {a : Word} {v : Byte}

/-- A handler that is a one-byte store and then `done` on the state stored. -/
theorem storeAnswer_of_exec_bind {done : State → State}
    (h : exec i s = s.retire len (s.writeByte a v >>= fun t => .ok (done t))) : StoreAnswer s i len a v done := by
  refine ⟨fun f hf => ?raises, fun nxt hn hf => ?stores⟩
  case raises =>
    rw [h, State.writeByte_error hf]
    exact State.retire_error len f
  case stores =>
    obtain ⟨t, ht, hstored⟩ := State.writeByte_ok hf
    rw [ht] at h
    exact ⟨t, hstored, h.trans (State.retire_ok hn (done t))⟩

/-- A handler that is a one-byte store and nothing else. -/
theorem storeAnswer_of_exec (h : exec i s = s.retire len (s.writeByte a v)) : StoreAnswer s i len a v id :=
  storeAnswer_of_exec_bind (h.trans (congrArg (s.retire len) (bind_pure (s.writeByte a v)).symm))

/-- Outside the mirrored ranges neither line of EchoMirror raises anything. -/
theorem State.storeFault_of_not_echoed (hrom : ¬s.InRom a) (hecho : ¬s.cfg.params.Echoed a.toNat) (b : Byte) :
    s.storeFault a b = none := by
  obtain ⟨hwram, hmirror⟩ := not_or.1 hecho
  exact State.storeFault_of_echoFault hrom (if_neg fun ⟨_, hlo, hhi, _⟩ => hwram ⟨hlo, hhi⟩)
    (if_neg fun ⟨_, hlo, hhi, _⟩ => hmirror ⟨hlo, hhi⟩) b

end Store

/-! Addresses. -/

theorem highPage_toNat (n : Byte) : (highPage n).toNat = 0xFF00 + n.toNat := by
  have := n.isLt
  rw [highPage, BitVec.toNat_add, zext16_toNat]
  exact Nat.mod_eq_of_lt (show 0xFF00 + n.toNat < 65536 by omega)

theorem highPage_eq_of_toNat {n : Byte} {page : Word} (h : page.toNat = 0xFF00 + n.toNat) : highPage n = page :=
  BitVec.eq_of_toNat_eq ((highPage_toNat n).trans h.symm)

theorem eq_add_one_of_toNat {v up : Word} (h : up.toNat = (v.toNat + 1) % 65536) : up = v + 1 :=
  BitVec.eq_of_toNat_eq (h.trans (BitVec.toNat_add v 1).symm)

theorem eq_sub_one_of_toNat {v down : Word} (h : down.toNat = (v.toNat + 65535) % 65536) : down = v - 1 :=
  BitVec.eq_of_toNat_eq (h.trans (toNat_sub_one v (by decide)).symm)

end Sys2Proof.Machine
end

section
/-! PROOFS. The statements of 41_load8.md, settled. -/

open Sys2Proof Sys2Proof.Machine Sys2Proof.Spec

/-- Settles O24: each handler writes its destination and retires. -/
theorem registerLoadsWriteRegister : Obligations.RegisterLoadsWriteRegister := by
  unfold Obligations.RegisterLoadsWriteRegister
  refine fun s nxt dst src n rest => ⟨decode_of_encodedAs_op (ofLdRegReg_encodedAs dst src) rest, decode_ofLdRegImm dst n rest,
    decode_ofLdRegMemHl dst rest, fun hn => ?reg, fun hn => ?imm, fun hn => ?memHl⟩
  case reg => exact (exec_ofLdRegReg dst src s).trans (State.retire_ok hn _)
  case imm => exact (exec_ofLdRegImm dst n s).trans (State.retire_ok hn _)
  case memHl => exact (exec_ofLdRegMemHl dst s).trans (State.retire_ok hn _)

/-- Settles O25: both handlers are a one-byte store at HL and nothing else. -/
theorem registerStoresWriteByte : Obligations.RegisterStoresWriteByte := by
  unfold Obligations.RegisterStoresWriteByte
  exact fun s src n rest => ⟨decode_of_encodedAs_op (ofLdMemHlReg_encodedAs src) rest, rfl,
    storeAnswer_of_exec (exec_ofLdMemHlReg src s), storeAnswer_of_exec rfl⟩

/-- Settles O26: each handler is `loadA` at its address; the high page's is the number that the hypothesis gives. -/
theorem accumulatorLoadsReadByte : Obligations.AccumulatorLoadsReadByte := by
  unfold Obligations.AccumulatorLoadsReadByte
  refine fun s nxt nn page n rest => ⟨rfl, rfl, decode_imm16_byte rfl nn rest, rfl, rfl,
    fun hn => State.retire_ok hn (s.loadA s.bc), fun hn => State.retire_ok hn (s.loadA s.de),
    fun hn => State.retire_ok hn (s.loadA nn), fun hn hpage => ?ldhN, fun hn hpage => ?ldhC⟩
  case ldhN =>
    rw [← highPage_eq_of_toNat hpage]
    exact State.retire_ok hn (s.loadA (highPage n))
  case ldhC =>
    rw [← highPage_eq_of_toNat hpage]
    exact State.retire_ok hn (s.loadA (highPage s.c))

/-- Settles O27: each handler is a one-byte store of A and nothing else; the high page is clear of the ROM window and of the
mirrored ranges where the hypotheses say so. -/
theorem accumulatorStoresWriteByte : Obligations.AccumulatorStoresWriteByte := by
  unfold Obligations.AccumulatorStoresWriteByte
  refine fun s nn page n rest => ⟨rfl, rfl, decode_imm16_byte rfl nn rest, rfl, rfl, storeAnswer_of_exec rfl,
    storeAnswer_of_exec rfl, storeAnswer_of_exec rfl, fun hpage hrom hecho => ?noFault, fun hpage => ?ldhN, fun hpage => ?ldhC⟩
  case noFault => exact State.storeFault_of_not_echoed (hrom.trans_le hpage).not_ge hecho s.a
  case ldhN => exact highPage_eq_of_toNat hpage ▸ storeAnswer_of_exec rfl
  case ldhC => exact highPage_eq_of_toNat hpage ▸ storeAnswer_of_exec rfl

/-- Settles O28: each handler makes its access at the old HL and then moves HL. -/
theorem hlUpdateFormsMoveHl : Obligations.HlUpdateFormsMoveHl := by
  unfold Obligations.HlUpdateFormsMoveHl
  intro s nxt up down rest hup hdown
  obtain rfl := eq_add_one_of_toNat hup
  obtain rfl := eq_sub_one_of_toNat hdown
  exact ⟨rfl, rfl, rfl, rfl, storeAnswer_of_exec_bind rfl, storeAnswer_of_exec_bind rfl,
    fun hn => State.retire_ok hn _, fun hn => State.retire_ok hn _⟩

end

section
/-! PROOFS. Every store keeps the canonical form of memory: the host's load and reset, and the placing of a program
(20_memory.md R76; 70_reset_and_hazards.md R390; log entries 4, 7 and 19). -/

namespace Sys2Proof.Machine

variable {s : State}

theorem State.loadCartridge_canonical {image : List Byte} {u : State} (h : s.MemoryCanonical)
    (hu : s.loadCartridge image = .next u) : u.MemoryCanonical := by
  rcases s.loadCartridge_cases image with ⟨r, hr⟩ | ⟨mode, -, -, hr⟩
  · exact nomatch hr.symm.trans hu
  · cases hr.symm.trans hu
    exact ⟨h.1, romOfBytes_wf 0 image⟩

/-- A load that has a move is `load_cartridge`, before the first reset. -/
theorem hostLoad_canonical {image : List Byte} {u : State} (h : s.MemoryCanonical) (hu : hostLoad image s = .next u) :
    u.MemoryCanonical := by
  rw [hostLoad_eq] at hu
  split at hu
  · exact nomatch hu
  · exact State.loadCartridge_canonical h hu

/-- A reset lists no byte of memory and keeps the image. -/
theorem hostReset_canonical {t : State} (h : s.MemoryCanonical) (ht : hostReset s = .next t) : t.MemoryCanonical := by
  rcases hostReset_cases s with ⟨f, -, hr⟩ | ⟨-, -, hr⟩ | ⟨-, -, hr⟩
  · exact nomatch hr.symm.trans ht
  · exact nomatch hr.symm.trans ht
  · cases hr.symm.trans ht
    exact ⟨rfl, h.2⟩

/-- A program byte goes into the image in the ROM window, and into memory above it. -/
theorem State.placeByte_canonical (h : s.MemoryCanonical) (a : Word) (v : Byte) : (s.placeByte a v).MemoryCanonical := by
  by_cases ha : s.InRom a
  · rw [State.placeByte, if_pos ((State.inRomWindow_iff a).2 ha)]
    exact ⟨h.1, Mem.wf_write s.rom a.toNat v h.2⟩
  · exact (State.placeByte_memoryStep v ha).canonical h

theorem State.placeBytes_canonical (bytes : List Byte) (h : s.MemoryCanonical) (a : Word) :
    (s.placeBytes a bytes).MemoryCanonical := by
  induction bytes generalizing s a with
  | nil => exact h
  | cons v bytes ih => exact ih (State.placeByte_canonical h a v) (a + 1)

end Sys2Proof.Machine
end

section
/-! PROOFS. 16-bit loads and the stack: what a two-byte store, a push and a pop answer at the end of any instruction, the
handlers by pair, and the arithmetic of LD HL,SP+e and POP AF (42_load16.md). -/

namespace Sys2Proof.Machine

open Sys2Proof.Spec

variable {s : State} {w : Word}

/-- Where `next` is in range, PC's move is the last thing that a handler does. -/
theorem State.retire_eq_complete {len : Nat} (hn : s.Next len w) (r : Except Fault State) :
    s.retire len r = s.complete (r >>= fun t => .ok { t with pc := w }) := by
  cases r with
  | ok t => exact State.retire_ok hn t
  | error f => rfl

/-! The answers of instructions that store two bytes, push or pop. -/

/-- An instruction begun in `s0` that makes a two-byte store from `s` and then `done` (20_memory.md R68). -/
theorem shortStoreAnswer_complete (s0 s : State) (a v : Word) (done : State → State) :
    ShortStoreAnswer s0 s a v (s0.complete (s.writeShort .little a v >>= fun t => .ok (done t))) done := by
  have hsplit : ByteOrder.Splits .little v (byte (v.toNat % 256)) (byte (v.toNat / 256)) := .inl ⟨rfl, rfl, rfl⟩
  refine ⟨fun f hf => ?first, fun hlo => ⟨fun hout => ?address, fun a1 ha1 => ⟨fun f hf => ?second, fun hhi => ?stores⟩⟩⟩
  case first =>
    rw [State.writeShort_error_first hsplit hf]
    rfl
  case address =>
    rw [State.writeShort_error_address hsplit hlo hout]
    rfl
  case second =>
    rw [State.writeShort_error_second hsplit hlo ha1 hf]
    rfl
  case stores =>
    obtain ⟨t, ht, hstored⟩ := State.writeShort_ok ha1 hlo hhi
    rw [ht]
    exact ⟨t, hstored, rfl⟩

/-- An instruction that pushes `v` and then does `done`: the new SP, then the two-byte store there (42_load16.md R190). -/
theorem pushAnswer_complete (s : State) (v : Word) (done : State → State) :
    PushAnswer s v (s.complete (s.push16 v >>= fun t => .ok (done t))) done := by
  refine ⟨fun hout => ?address, fun sp hsp => ?stores⟩
  case address =>
    have ha : s.addrAdd s.sp (-2) = .error (.addressRange (s.sp.toNat - 2)) := State.addr16_error hout
    rw [State.push16, ha]
    rfl
  case stores =>
    have ha : s.addrAdd s.sp (-2) = .ok sp := State.addr16_ok hsp
    rw [State.push16, ha]
    exact shortStoreAnswer_complete s { s with sp := sp } sp v done

theorem State.pop16_error_first (h : s.OutOfRange (s.sp.toNat + 1)) :
    s.pop16 = .error (.addressRange (s.sp.toNat + 1)) := by
  rw [State.pop16, State.readShort_error h]
  rfl

theorem State.pop16_error_second {sp1 : Word} (h1 : s.Addr (s.sp.toNat + 1) sp1) (h2 : s.OutOfRange (s.sp.toNat + 2)) :
    s.pop16 = .error (.addressRange (s.sp.toNat + 2)) := by
  have ha : s.addrAdd s.sp 2 = .error (.addressRange (s.sp.toNat + 2)) := State.addr16_error h2
  rw [State.pop16, State.readShort_ok h1, ha]
  rfl

/-- An instruction that pops a word and then does `done` on it (42_load16.md R190). -/
theorem popAnswer_complete (s : State) (done : Word → State → State) :
    PopAnswer s (s.complete (s.pop16 >>= fun r => .ok (done r.1 r.2))) done := by
  refine ⟨fun hout => ?first, fun sp1 h1 => ⟨fun hout => ?second, fun sp2 h2 => ?pops⟩⟩
  case first =>
    rw [State.pop16_error_first hout]
    rfl
  case second =>
    rw [State.pop16_error_second h1 hout]
    rfl
  case pops =>
    rw [State.pop16_ok h1 h2]
    exact ⟨_, join_toNat _ _, rfl⟩

/-! The forms chosen by a pair. -/

theorem decode_ofLdPairImm (p : Pair) (nn : Word) (rest : List Byte) :
    decode (byte (0x01 + 16 * p.code) :: byte (nn.toNat % 256) :: byte (nn.toNat / 256) :: rest)
      = .ok (.ofLdPairImm p nn, rest) := by
  cases p <;> exact decode_imm16_byte (f := Instr.ofLdPairImm _) rfl nn rest

theorem decode_ofPush (q : StackPair) (rest : List Byte) :
    decode (byte (0xC5 + 16 * q.code) :: rest) = .ok (.ofPush q, rest) := by
  cases q <;> rfl

theorem decode_ofPop (q : StackPair) (rest : List Byte) :
    decode (byte (0xC1 + 16 * q.code) :: rest) = .ok (.ofPop q, rest) := by
  cases q <;> rfl

theorem exec_ofLdPairImm (p : Pair) (nn : Word) (s : State) : exec (.ofLdPairImm p nn) s = ldPairImm p nn s := by
  cases p <;> rfl

theorem exec_ofPush (q : StackPair) (s : State) : exec (.ofPush q) s = pushPair q s := by
  cases q <;> rfl

theorem exec_ofPop (q : StackPair) (s : State) : exec (.ofPop q) s = popPair q s := by
  cases q <;> rfl

theorem popAnswer_popPair (hn : s.Next 1 w) (q : StackPair) :
    PopAnswer s (popPair q s) fun v t => { t.setStackPair q (popValue q v) with pc := w } := by
  rw [popPair, State.retire_eq_complete hn, bind_assoc]
  exact popAnswer_complete s fun v t => { t.setStackPair q (popValue q v) with pc := w }

/-! The arithmetic of POP AF and of LD HL,SP+e. -/

theorem popValue_of_ne_af {q : StackPair} (h : q ≠ .af) (v : Word) : popValue q v = v := by
  cases q with
  | af => exact absurd rfl h
  | bc | de | hl => rfl

theorem popValue_af_toNat (v : Word) : (popValue .af v).toNat = v.toNat / 16 * 16 := by
  have hmask : popValue .af v = v >>> 4 <<< 4 := by
    refine BitVec.eq_of_getLsbD_eq fun j hj => ?_
    rw [popValue, show (0xFFF0 : Word) = BitVec.allOnes 16 <<< 4 by decide, BitVec.getLsbD_and, BitVec.getLsbD_shiftLeft,
      BitVec.getLsbD_shiftLeft, BitVec.getLsbD_ushiftRight, BitVec.getLsbD_allOnes]
    by_cases h4 : j < 4
    · simp [h4]
    · simp [h4, hj, show 4 + (j - 4) = j by omega, show j - 4 < 16 by omega]
  rw [hmask, BitVec.toNat_shiftLeft, BitVec.toNat_ushiftRight, Nat.shiftRight_eq_div_pow, Nat.shiftLeft_eq]
  omega

/-- POP AF writes the high byte to A and the low byte, without its low nibble, to F (42_load16.md R197). -/
theorem State.setStackPair_popValue_af (s : State) (v : Word) :
    s.setStackPair .af (popValue .af v) =
      { s with a := byte (v.toNat / 256), f := byte (v.toNat % 256 / 16 * 16) } := by
  have hhi : v.toNat / 16 * 16 / 256 = v.toNat / 256 := by omega
  have hlo : v.toNat / 16 * 16 % 256 = v.toNat % 256 / 16 * 16 := by omega
  rw [State.setStackPair, hi_eq, lo_eq, popValue_af_toNat, hhi, hlo]

theorem sext16_toNat (e : Byte) : (Bits.sext16 e).toNat = sext e := by
  rw [Bits.sext16, BitVec.toNat_signExtend, BitVec.toNat_setWidth_of_le (by decide), BitVec.msb_eq_decide, sext]
  by_cases h : e.toNat < 128
  · rw [if_pos h, if_neg (by simpa using h), Nat.add_zero]
  · rw [if_neg h, if_pos (by simpa using h)]

theorem toNat_add_sext16 (v : Word) (e : Byte) : (v + Bits.sext16 e).toNat = (v.toNat + sext e) % 65536 := by
  rw [BitVec.toNat_add, sext16_toNat]

/-- `flags(z, n, h, c)` in plain arithmetic (00_scope.md R16). -/
theorem flagsAre_mkFlags (z n h c : Bool) : FlagsAre (mkFlags z n h c) z n h c 0 := by
  revert z n h c
  decide

theorem addSpFlags_spAddFlags (sp : Word) (e : Byte) : SpAddFlags sp e (addSpFlags sp e) := by
  have hnibble : (sp &&& 0x000F).toNat = sp.toNat % 16 := Nat.and_two_pow_sub_one_eq_mod sp.toNat 4
  have hbyte : (sp &&& 0x00FF).toNat = sp.toNat % 256 := Nat.and_two_pow_sub_one_eq_mod sp.toNat 8
  rw [SpAddFlags, addSpFlags, hnibble, hbyte, toNat_and_0F]
  exact flagsAre_mkFlags _ _ _ _

end Sys2Proof.Machine
end

section
/-! PROOFS. The statements of 42_load16.md, settled. -/

open Sys2Proof Sys2Proof.Machine Sys2Proof.Spec

/-- Settles O7: each store is a data step, which keeps the form; the host's operations and the placing by what they write. -/
theorem memoryStaysCanonical : Obligations.MemoryStaysCanonical := by
  unfold Obligations.MemoryStaysCanonical
  refine fun s t hs => ⟨fun a v h => (s.writeByte_dataStep a v t h).canonical hs,
    fun o a v h => ((State.DataStep.refl s).writeShort o a v t h).canonical hs,
    fun v h => (s.push16_dataStep v t h).canonical hs, fun image => ?load, hostReset_canonical hs,
    fun nbits n => State.placeBytes_canonical (s := { s with halted := false, fault := none }) (tableBytes nbits n) hs s.pc⟩
  case load =>
    split
    next h => exact hostLoad_canonical hs h
    next => trivial
    next => trivial

/-- Settles O29: each handler writes its pair and retires; the flags of LD HL,SP+e are `addSpFlags`. -/
theorem pairLoadsWritePair : Obligations.PairLoadsWritePair := by
  unfold Obligations.PairLoadsWritePair
  exact fun s nxt nn p e rest => ⟨decode_ofLdPairImm p nn rest, rfl, rfl,
    fun hn => (exec_ofLdPairImm p nn s).trans (State.retire_ok hn _), fun hn => State.retire_ok hn _,
    fun hn => ⟨_, _, toNat_add_sext16 s.sp e, addSpFlags_spAddFlags s.sp e, State.retire_ok hn _⟩⟩

/-- Settles O30: the handler is a two-byte store of SP and nothing else. -/
theorem storeSpWritesTwoBytes : Obligations.StoreSpWritesTwoBytes := by
  unfold Obligations.StoreSpWritesTwoBytes
  refine fun s nxt nn rest => ⟨decode_imm16_byte rfl nn rest, fun hn => ?store⟩
  case store =>
    have hexec : exec (.ldMemNnSp nn) s = s.retire 3 (s.writeShort .little nn s.sp) := rfl
    rw [hexec, State.retire_eq_complete hn]
    exact shortStoreAnswer_complete s s nn s.sp fun t => { t with pc := nxt }

/-- Settles O31: the handler is a push of the pair and nothing else. -/
theorem pushLowersSpAndStores : Obligations.PushLowersSpAndStores := by
  unfold Obligations.PushLowersSpAndStores
  refine fun s nxt q rest => ⟨decode_ofPush q rest, fun hn => ?push⟩
  case push =>
    rw [exec_ofPush, pushPair, State.retire_eq_complete hn]
    exact pushAnswer_complete s (s.stackPair q) fun t => { t with pc := nxt }

/-- Settles O32: the handler is a pop into the pair, which only POP AF masks. -/
theorem popLoadsPairAndRaisesSp : Obligations.PopLoadsPairAndRaisesSp := by
  unfold Obligations.PopLoadsPairAndRaisesSp
  refine fun s nxt q rest => ⟨decode_ofPop q rest, fun hq hn => ?pop, fun hn => ?popAf⟩
  case pop =>
    rw [exec_ofPop]
    simpa only [popValue_of_ne_af hq] using popAnswer_popPair hn q
  case popAf =>
    have hexec : exec .popAf s = popPair .af s := rfl
    rw [hexec]
    simpa only [State.setStackPair_popValue_af] using popAnswer_popPair hn .af

end

section
/-! PROOFS. 8-bit arithmetic and logic: `Add8`, `Sub8`, the bitwise operations and DAA in plain arithmetic, the bytes that select
them, their handlers by operand form, and a store after the flags were written (43_alu8.md). -/

namespace Sys2Proof.Machine

open Sys2Proof.Spec

variable {s : State} {i : Instr}

/-! Flags. -/

/-- A byte with the low nibble of `f` is its own four flags and that nibble. -/
theorem flagsAre_of_and_0F {f g : Byte} (h : g &&& 0x0F = f &&& 0x0F) :
    FlagsAre g (flagZ g) (flagN g) (flagH g) (flagC g) (lowNibble f) := by
  rw [lowNibble, ← toNat_and_0F f, ← h, toNat_and_0F]
  exact flagsAre_self g

/-- The flags that CPL writes: N and H as given, Z, Cy and the low nibble kept. -/
theorem flagsAre_setHN (f : Byte) (n h : Bool) : FlagsAre (setH (setN f n) h) (bitZ f) n h (bitC f) (lowNibble f) := by
  have hflags := flagsAre_of_and_0F ((setH_and_0F (setN f n) h).trans (setN_and_0F f n))
  simpa only [flagZ, flagN, flagH, flagC, setN, setH, getLsbD_setBit, Nat.reduceLT, Nat.reduceEqDiff, reduceIte,
    ← flagZ_eq_bitZ, ← flagC_eq_bitC] using hflags

/-- The flags that SCF and CCF write: N, H and Cy as given, Z and the low nibble kept. -/
theorem flagsAre_setCHN (f : Byte) (n h c : Bool) :
    FlagsAre (setC (setH (setN f n) h) c) (bitZ f) n h c (lowNibble f) := by
  have hflags := flagsAre_of_and_0F
    ((setC_and_0F (setH (setN f n) h) c).trans ((setH_and_0F (setN f n) h).trans (setN_and_0F f n)))
  simpa only [flagZ, flagN, flagH, flagC, setN, setH, setC, getLsbD_setBit, Nat.reduceLT, Nat.reduceEqDiff, reduceIte,
    ← flagZ_eq_bitZ] using hflags

theorem flagN_eq_bitN (f : Byte) : flagN f = bitN f := by
  have h : flagN f = decide (f.toNat / 64 % 2 = 1) := Nat.testBit_eq_decide_div_mod_eq
  rw [h, bitN, beq_eq_decide]

theorem flagH_eq_bitH (f : Byte) : flagH f = bitH f := by
  have h : flagH f = decide (f.toNat / 32 % 2 = 1) := Nat.testBit_eq_decide_div_mod_eq
  rw [h, bitH, beq_eq_decide]

/-- Flags whose Z is the zero test of a result (43_alu8.md R210). -/
theorem flagsAre_mkFlags_zf (v : Byte) (n h c : Bool) : FlagsAre (mkFlags (zf v) n h c) (decide (v.toNat = 0)) n h c 0 := by
  rw [zf_eq_decide]
  exact flagsAre_mkFlags _ n h c

/-! `Add8` and `Sub8` (43_alu8.md R210). -/

theorem add8_toNat (a v : Byte) (c : Bool) : (add8 a v c).1.toNat = (a.toNat + v.toNat + c.toNat) % 256 :=
  BitVec.toNat_ofNat _ 8

theorem add8_flagsAre (a v : Byte) (c : Bool) :
    FlagsAre (add8 a v c).2 (decide ((add8 a v c).1.toNat = 0)) false (decide (a.toNat % 16 + v.toNat % 16 + c.toNat > 15))
      (decide (a.toNat + v.toNat + c.toNat > 255)) 0 := by
  rw [← toNat_and_0F, ← toNat_and_0F]
  exact flagsAre_mkFlags_zf _ _ _ _

theorem sub8_toNat (a v : Byte) (c : Bool) : (sub8 a v c).1.toNat = (a.toNat + 256 - (v.toNat + c.toNat)) % 256 := by
  have hresult : (sub8 a v c).1.toNat = (((a.toNat : Int) - v.toNat - c.toNat) % 256).toNat := BitVec.toNat_ofInt _
  have := v.isLt
  have := c.toNat_lt
  omega

theorem sub8_flagsAre (a v : Byte) (c : Bool) :
    FlagsAre (sub8 a v c).2 (decide ((sub8 a v c).1.toNat = 0)) true (decide (a.toNat % 16 < v.toNat % 16 + c.toNat))
      (decide (a.toNat < v.toNat + c.toNat)) 0 := by
  rw [← toNat_and_0F, ← toNat_and_0F]
  exact flagsAre_mkFlags_zf _ _ _ _

/-- Without a borrow the difference is zero where the operands are equal. -/
theorem sub8_toNat_eq_zero (a v : Byte) : (sub8 a v false).1.toNat = 0 ↔ a = v := by
  have := a.isLt
  have := v.isLt
  rw [sub8_toNat, ← BitVec.toNat_inj, Bool.toNat_false]
  omega

/-! The ALU operations on the state. -/

section Alu

variable {k : AluOp} {v : Byte} {c : Bool}

theorem adds_of_alu (h : alu k s.a v s.f = add8 s.a v c) : Adds c.toNat s v (s.applyAlu k v) := by
  rw [State.applyAlu, h]
  exact ⟨rfl, add8_toNat s.a v c, add8_flagsAre s.a v c⟩

theorem subtracts_of_alu (h : alu k s.a v s.f = sub8 s.a v c) : Subtracts c.toNat s v (s.applyAlu k v) := by
  rw [State.applyAlu, h]
  exact ⟨rfl, sub8_toNat s.a v c, sub8_flagsAre s.a v c⟩

/-- CP is SUB that leaves A (43_alu8.md R232). -/
theorem compares_applyAlu_cp (s : State) (v : Byte) : Compares s v (s.applyAlu .cp v) := by
  refine ⟨rfl, ?_⟩
  rw [← decide_eq_decide.2 (sub8_toNat_eq_zero s.a v)]
  exact sub8_flagsAre s.a v false

theorem combines_of_alu {op : Bool → Bool → Bool} {r : Byte} {h : Bool}
    (halu : alu k s.a v s.f = (r, mkFlags (zf r) false h false))
    (hbit : ∀ j, r.toNat.testBit j = op (s.a.toNat.testBit j) (v.toNat.testBit j)) : Combines op h s v (s.applyAlu k v) := by
  rw [State.applyAlu, halu]
  exact ⟨rfl, fun j _ => hbit j, flagsAre_mkFlags_zf r _ _ _⟩

end Alu

/-! DAA (43_alu8.md R239). -/

/-- The two adjustments have no bit in common. -/
theorem daaAdjust_toNat (high low : Bool) :
    ((if high then 0x60 else 0 : Byte) ||| (if low then 0x06 else 0)).toNat =
      (if high = true then 0x60 else 0) + (if low = true then 0x06 else 0) := by
  revert high low
  decide

theorem daaAddAdjust_toNat (a f : Byte) :
    (daaAddAdjust a f).1.toNat = (if bitC f = true ∨ a.toNat > 0x99 then 0x60 else 0)
      + (if bitH f = true ∨ a.toNat % 16 > 0x09 then 0x06 else 0) := by
  refine (daaAdjust_toNat _ _).trans ?_
  simp only [flagC_eq_bitC, flagH_eq_bitH, toNat_and_0F, Bool.or_eq_true, decide_eq_true_eq]

theorem daaSubAdjust_toNat (f : Byte) :
    (daaSubAdjust f).1.toNat = (if bitC f = true then 0x60 else 0) + (if bitH f = true then 0x06 else 0) := by
  rw [← flagC_eq_bitC, ← flagH_eq_bitH]
  exact daaAdjust_toNat _ _

theorem daa8_of_add {f : Byte} (h : bitN f = false) (a : Byte) :
    daa8 a f = (a + (daaAddAdjust a f).1, mkFlags (zf (a + (daaAddAdjust a f).1)) false false (daaAddAdjust a f).2) := by
  rw [daa8, if_neg (by rw [flagN_eq_bitN, h]; decide)]

theorem daa8_of_sub {f : Byte} (h : bitN f = true) (a : Byte) :
    daa8 a f = (a - (daaSubAdjust f).1, mkFlags (zf (a - (daaSubAdjust f).1)) true false (daaSubAdjust f).2) := by
  rw [daa8, if_pos ((flagN_eq_bitN f).trans h)]

/-- DAA after an addition: both tests look at A before the adjustment. -/
theorem daa8_add {f : Byte} (h : bitN f = false) (a : Byte) :
    (daa8 a f).1.toNat = (a.toNat + (if bitC f = true ∨ a.toNat > 0x99 then 0x60 else 0)
        + (if bitH f = true ∨ a.toNat % 16 > 0x09 then 0x06 else 0)) % 256 ∧
      FlagsAre (daa8 a f).2 (decide ((daa8 a f).1.toNat = 0)) false false (bitC f || decide (a.toNat > 0x99)) 0 := by
  rw [daa8_of_add h, ← flagC_eq_bitC]
  refine ⟨?sum, flagsAre_mkFlags_zf _ _ _ _⟩
  case sum => rw [BitVec.toNat_add, daaAddAdjust_toNat, flagC_eq_bitC, Nat.add_assoc]

/-- DAA after a subtraction. -/
theorem daa8_sub {f : Byte} (h : bitN f = true) (a : Byte) :
    (daa8 a f).1.toNat =
        (a.toNat + 256 - (if bitC f = true then 0x60 else 0) - (if bitH f = true then 0x06 else 0)) % 256 ∧
      FlagsAre (daa8 a f).2 (decide ((daa8 a f).1.toNat = 0)) true false (bitC f) 0 := by
  rw [daa8_of_sub h, ← flagC_eq_bitC]
  refine ⟨?difference, flagsAre_mkFlags_zf _ _ _ _⟩
  case difference =>
    rw [BitVec.toNat_sub, daaSubAdjust_toNat, flagC_eq_bitC]
    split <;> split <;> omega

/-! CPL (43_alu8.md R240). -/

theorem toNat_xor_FF (v : Byte) : (v ^^^ 0xFF).toNat = 255 - v.toNat := by
  rw [show (0xFF : Byte) = BitVec.allOnes 8 by decide, BitVec.xor_allOnes, BitVec.toNat_not]

/-! Decoding. -/

theorem decode_ofAluReg (y : Fin 8) (r : R8) (rest : List Byte) :
    decode (byte (0x80 + 8 * y.val + r.code) :: rest) = .ok (.ofAluReg (aluOfField y) r, rest) :=
  decode_of_encodedAs_op (ofAluReg_encodedAs y r) rest

theorem decode_ofAluMemHl (y : Fin 8) (rest : List Byte) :
    decode (byte (0x86 + 8 * y.val) :: rest) = .ok (.ofAluMemHl (aluOfField y), rest) := by
  rw [show 0x86 + 8 * y.val = 0x80 + 8 * y.val + 6 by omega]
  exact decode_of_encodedAs_op (ofAluMemHl_encodedAs y) rest

theorem decode_ofAluImm (y : Fin 8) (n : Byte) (rest : List Byte) :
    decode (byte (0xC6 + 8 * y.val) :: n :: rest) = .ok (.ofAluImm (aluOfField y) n, rest) := by
  fin_cases y <;> rfl

theorem decode_ofIncReg (r : R8) (rest : List Byte) :
    decode (byte (0x04 + 8 * r.code) :: rest) = .ok (.ofIncReg r, rest) := by
  cases r <;> rfl

theorem decode_ofDecReg (r : R8) (rest : List Byte) :
    decode (byte (0x05 + 8 * r.code) :: rest) = .ok (.ofDecReg r, rest) := by
  cases r <;> rfl

/-! The handlers of the forms chosen by an operation and a register. -/

theorem exec_ofAluReg (k : AluOp) (r : R8) (s : State) : exec (.ofAluReg k r) s = aluReg k r s := by
  cases k <;> cases r <;> rfl

theorem exec_ofAluMemHl (k : AluOp) (s : State) : exec (.ofAluMemHl k) s = aluMemHl k s := by
  cases k <;> rfl

theorem exec_ofAluImm (k : AluOp) (n : Byte) (s : State) : exec (.ofAluImm k n) s = aluImm k n s := by
  cases k <;> rfl

theorem exec_ofIncReg (r : R8) (s : State) : exec (.ofIncReg r) s = incReg r s := by
  cases r <;> rfl

theorem exec_ofDecReg (r : R8) (s : State) : exec (.ofDecReg r) s = decReg r s := by
  cases r <;> rfl

/-- The three operand forms of an operation of the alu table, from what it does to A and F. -/
theorem aluForms_of_applyAlu (y : Fin 8) {R : State → Byte → State → Prop}
    (h : ∀ s v, R s v (s.applyAlu (aluOfField y) v)) : AluForms (aluOfField y) y.val R := by
  refine fun s nxt rest => ⟨fun r => ⟨decode_ofAluReg y r rest, fun hn => ⟨_, ?reg, h s (s.r8 r)⟩⟩,
    ⟨decode_ofAluMemHl y rest, fun hn => ⟨_, ?memHl, h s (s.readByte s.hl)⟩⟩,
    fun n => ⟨decode_ofAluImm y n rest, fun hn => ⟨_, ?imm, h s n⟩⟩⟩
  case reg => exact (exec_ofAluReg _ r s).trans (State.retire_ok hn _)
  case memHl => exact (exec_ofAluMemHl _ s).trans (State.retire_ok hn _)
  case imm => exact (exec_ofAluImm _ n s).trans (State.retire_ok hn _)

/-! A store after the flags were written. -/

/-- A handler that writes F and then makes a one-byte store: the store neither looks at F nor writes it. -/
theorem storeAnswer_of_exec_setF {len : Nat} {a : Word} {v fl : Byte}
    (h : exec i s = s.retire len (State.writeByte { s with f := fl } a v)) :
    StoreAnswer s i len a v fun t => { t with f := fl } := by
  refine ⟨fun f hf => ?raises, fun nxt hn hf => ?stores⟩
  case raises =>
    have herror : State.writeByte { s with f := fl } a v = .error f := State.writeByte_error hf
    rw [h, herror]
    exact State.retire_error len f
  case stores =>
    obtain ⟨t, ht, hmem, hrom, hread⟩ := State.writeByte_ok (s := { s with f := fl }) hf
    rw [ht, hmem] at h
    refine ⟨{ s with mem := t.mem }, ⟨rfl, fun ha => ?inRom, fun x => ?reads⟩, h.trans (State.retire_ok hn _)⟩
    case inRom => rw [hrom ha]
    case reads =>
      rw [hmem] at hread
      exact hread x

end Sys2Proof.Machine
end

section
/-! PROOFS. The statements of 43_alu8.md, settled. -/

open Sys2Proof Sys2Proof.Machine Sys2Proof.Spec

/-- Settles O33: ADD is `Add8` without a carry, ADC with the carry flag. -/
theorem addAdcSumAndFlags : Obligations.AddAdcSumAndFlags := by
  unfold Obligations.AddAdcSumAndFlags
  refine ⟨aluForms_of_applyAlu 0 fun s v => adds_of_alu (c := false) rfl, aluForms_of_applyAlu 1 fun s v => ?adc⟩
  case adc =>
    rw [← flagC_eq_bitC]
    exact adds_of_alu rfl

/-- Settles O34: SUB and CP are `Sub8` without a borrow, SBC with the carry flag. -/
theorem subSbcCpDifferenceAndFlags : Obligations.SubSbcCpDifferenceAndFlags := by
  unfold Obligations.SubSbcCpDifferenceAndFlags
  refine ⟨aluForms_of_applyAlu 2 fun s v => subtracts_of_alu (c := false) rfl, aluForms_of_applyAlu 3 fun s v => ?sbc,
    aluForms_of_applyAlu 7 compares_applyAlu_cp⟩
  case sbc =>
    rw [← flagC_eq_bitC]
    exact subtracts_of_alu rfl

/-- Settles O35: each operation is the one of bit vectors, bit by bit. -/
theorem logicBitsAndFlags : Obligations.LogicBitsAndFlags := by
  unfold Obligations.LogicBitsAndFlags
  exact ⟨aluForms_of_applyAlu 4 fun s v => combines_of_alu rfl (Nat.testBit_and s.a.toNat v.toNat),
    aluForms_of_applyAlu 5 fun s v => combines_of_alu rfl fun j => Nat.testBit_xor s.a.toNat v.toNat j,
    aluForms_of_applyAlu 6 fun s v => combines_of_alu rfl (Nat.testBit_or s.a.toNat v.toNat)⟩

/-- Settles O36: the results of `inc8` and `dec8`, written to the register and F. -/
theorem incDecRegisterKeepsCarry : Obligations.IncDecRegisterKeepsCarry := by
  unfold Obligations.IncDecRegisterKeepsCarry
  exact fun s nxt r rest => ⟨decode_ofIncReg r rest, decode_ofDecReg r rest,
    fun hn => ⟨_, _, inc8_incs (s.r8 r) s.f, (exec_ofIncReg r s).trans (State.retire_ok hn _)⟩,
    fun hn => ⟨_, _, dec8_decs (s.r8 r) s.f, (exec_ofDecReg r s).trans (State.retire_ok hn _)⟩⟩

/-- Settles O37: the results of `inc8` and `dec8`, F written and then the byte stored at HL. -/
theorem incDecMemoryStoresAndKeepsCarry : Obligations.IncDecMemoryStoresAndKeepsCarry := by
  unfold Obligations.IncDecMemoryStoresAndKeepsCarry
  exact fun s rest => ⟨rfl, rfl, ⟨_, _, inc8_incs (s.readByte s.hl) s.f, storeAnswer_of_exec_setF rfl⟩,
    ⟨_, _, dec8_decs (s.readByte s.hl) s.f, storeAnswer_of_exec_setF rfl⟩⟩

/-- Settles O38: the two branches of `daa8`. -/
theorem daaAdjustsByFlags : Obligations.DaaAdjustsByFlags := by
  unfold Obligations.DaaAdjustsByFlags
  exact fun s nxt rest => ⟨rfl, fun hn => ⟨(daa8 s.a s.f).1, (daa8 s.a s.f).2, State.retire_ok hn s.daa,
    fun hadd => daa8_add hadd s.a, fun hsub => daa8_sub hsub s.a⟩⟩

/-- Settles O39: each handler replaces the flags it names, CPL also A by its complement. -/
theorem cplScfCcfFlags : Obligations.CplScfCcfFlags := by
  unfold Obligations.CplScfCcfFlags
  refine fun s nxt rest => ⟨rfl, rfl, rfl,
    fun hn => ⟨_, _, State.retire_ok hn s.cpl, toNat_xor_FF s.a, flagsAre_setHN s.f true true⟩,
    fun hn => ⟨_, State.retire_ok hn s.scf, flagsAre_setCHN s.f false false true⟩, fun hn => ⟨_, State.retire_ok hn s.ccf, ?ccf⟩⟩
  case ccf =>
    rw [← flagC_eq_bitC]
    exact flagsAre_setCHN s.f false false (!flagC s.f)

end

section
/-! PROOFS. 16-bit arithmetic: the bytes that select its forms, their handlers by pair, and the sum of ADD HL,rr with its flags
(44_alu16.md). -/

namespace Sys2Proof.Machine

open Sys2Proof.Spec

/-! The forms chosen by a pair. -/

theorem decode_ofIncPair (p : Pair) (rest : List Byte) :
    decode (byte (0x03 + 16 * p.code) :: rest) = .ok (.ofIncPair p, rest) := by
  cases p <;> rfl

theorem decode_ofDecPair (p : Pair) (rest : List Byte) :
    decode (byte (0x0B + 16 * p.code) :: rest) = .ok (.ofDecPair p, rest) := by
  cases p <;> rfl

theorem decode_ofAddHl (p : Pair) (rest : List Byte) :
    decode (byte (0x09 + 16 * p.code) :: rest) = .ok (.ofAddHl p, rest) := by
  cases p <;> rfl

theorem exec_ofIncPair (p : Pair) (s : State) : exec (.ofIncPair p) s = incPair p s := by
  cases p <;> rfl

theorem exec_ofDecPair (p : Pair) (s : State) : exec (.ofDecPair p) s = decPair p s := by
  cases p <;> rfl

theorem exec_ofAddHl (p : Pair) (s : State) : exec (.ofAddHl p) s = addHlPair p s := by
  cases p <;> rfl

/-! The sum and the flags of ADD HL,rr (R262). -/

theorem toNat_and_0FFF (v : Word) : (v &&& 0x0FFF).toNat = v.toNat % 4096 := by
  rw [BitVec.toNat_and]
  exact Nat.and_two_pow_sub_one_eq_mod v.toNat 12

theorem addHl16_toNat (hl v : Word) (f : Byte) : (addHl16 hl v f).1.toNat = (hl.toNat + v.toNat) % 65536 :=
  BitVec.toNat_add hl v

/-- The carries out of bits 11 and 15; Z and the low nibble are the old ones. -/
theorem addHl16_flagsAre (hl v : Word) (f : Byte) :
    FlagsAre (addHl16 hl v f).2 (bitZ f) false (decide (hl.toNat % 4096 + v.toNat % 4096 > 4095))
      (decide (hl.toNat + v.toNat > 65535)) (lowNibble f) := by
  rw [← toNat_and_0FFF, ← toNat_and_0FFF]
  exact flagsAre_setCHN f false _ _

end Sys2Proof.Machine
end

section
/-! PROOFS. The statements of 44_alu16.md, settled. -/

open Sys2Proof Sys2Proof.Machine Sys2Proof.Spec

/-- Settles O40: each handler writes its pair alone, one up or one down as a word, and retires. -/
theorem incDecPairWritesNoFlag : Obligations.IncDecPairWritesNoFlag := by
  unfold Obligations.IncDecPairWritesNoFlag
  exact fun s nxt p rest => ⟨decode_ofIncPair p rest, decode_ofDecPair p rest,
    fun hn => ⟨_, BitVec.toNat_add (s.pair p) 1, (exec_ofIncPair p s).trans (State.retire_ok hn _)⟩,
    fun hn => ⟨_, toNat_sub_one (s.pair p) (by decide), (exec_ofDecPair p s).trans (State.retire_ok hn _)⟩⟩

/-- Settles O41: ADD HL,rr writes what `addHl16` answers; ADD SP,e has the sum and the flags of LD HL,SP+e. -/
theorem pairAdditionsCarryFlags : Obligations.PairAdditionsCarryFlags := by
  unfold Obligations.PairAdditionsCarryFlags
  exact fun s nxt p e rest => ⟨decode_ofAddHl p rest, rfl,
    fun hn => ⟨_, _, addHl16_toNat s.hl (s.pair p) s.f, addHl16_flagsAre s.hl (s.pair p) s.f,
      (exec_ofAddHl p s).trans (State.retire_ok hn _)⟩,
    fun hn => ⟨_, _, toNat_add_sext16 s.sp e, addSpFlags_spAddFlags s.sp e, State.retire_ok hn _⟩⟩

end

section
/-! PROOFS. Rotates, shifts and SWAP: the bytes that select them, their handlers, and `Shift(k, v)` in plain arithmetic
(45_rotate_shift.md). -/

namespace Sys2Proof.Machine

open Sys2Proof.Spec

variable {s : State}

/-! The forms chosen by an operation and a register. -/

theorem decode_ofRotateA (k : Fin 4) (rest : List Byte) :
    decode (byte (0x07 + 8 * k.val) :: rest) = .ok (.ofRotateA k, rest) := by
  fin_cases k <;> rfl

theorem decode_ofShiftReg (k : ShiftOp) (r : R8) (rest : List Byte) :
    decode (0xCB :: byte (8 * k.code + r.code) :: rest) = .ok (.ofShiftReg k r, rest) := by
  cases k <;> cases r <;> rfl

theorem decode_ofShiftMemHl (k : ShiftOp) (rest : List Byte) :
    decode (0xCB :: byte (8 * k.code + 6) :: rest) = .ok (.ofShiftMemHl k, rest) := by
  cases k <;> rfl

/-- The rot table at an operation's own code (30_encoding.md R103). -/
theorem shiftOfField_of_code {op : ShiftOp} {y : Fin 8} (h : op.code = y.val) : shiftOfField y = op := by
  obtain ⟨code, hlt⟩ := y
  subst h
  cases op <;> rfl

/-- The accumulator rotates are the first four operations of the rot table. -/
theorem exec_ofRotateA {k : Fin 4} {op : ShiftOp} (h : op.code = k.val) (s : State) :
    exec (.ofRotateA k) s = rotateA op s := by
  rw [← shiftOfField_of_code (y := k.castLE (by decide)) h]
  fin_cases k <;> rfl

/-- Writing F and writing a register commute. -/
theorem State.setR8_setF (s : State) (r : R8) (v fl : Byte) :
    State.setR8 { s with f := fl } r v = { s.setR8 r v with f := fl } := by
  cases r <;> rfl

/-! `Shift(k, v)` (R279). -/

theorem toNat_getLsbD_zero (v : Byte) : (v.getLsbD 0).toNat = v.toNat % 2 := by
  have hbit : (v.getLsbD 0).toNat = v.toNat / 2 ^ 0 % 2 := Nat.toNat_testBit v.toNat 0
  rwa [pow_zero, Nat.div_one] at hbit

theorem toNat_getLsbD_seven (v : Byte) : (v.getLsbD 7).toNat = v.toNat / 128 := by
  have hbit : (v.getLsbD 7).toNat = v.toNat / 128 % 2 := Nat.toNat_testBit v.toNat 7
  have := v.isLt
  omega

/-- The two operands of each `|` in R279 have no bit in common: the one is a multiple of `2 ^ i`, the other below it. -/
theorem toNat_or_of_disjoint {x y : Byte} {i a : Nat} (hx : x.toNat = 2 ^ i * a) (hy : y.toNat < 2 ^ i) :
    (x ||| y).toNat = x.toNat + y.toNat := by
  rw [BitVec.toNat_or, hx, Nat.two_pow_add_eq_or_of_lt hy]

theorem toNat_shiftLeft_one (v : Byte) : (v <<< 1).toNat = 2 * v.toNat % 256 := by
  rw [BitVec.toNat_shiftLeft, Nat.shiftLeft_eq, Nat.mul_comm]

theorem toNat_shiftRight_one (v : Byte) : (v >>> 1).toNat = v.toNat / 2 := BitVec.toNat_ushiftRight v 1

/-- A shift to the left with `b` for the bit shifted in. -/
theorem toNat_shiftLeft_or_bit (v : Byte) (b : Bool) :
    ((v <<< 1) ||| (if b then 0x01 else 0x00)).toNat = 2 * v.toNat % 256 + b.toNat := by
  have hbit : (if b then 0x01 else 0x00 : Byte).toNat = b.toNat := by cases b <;> rfl
  have heven : (v <<< 1).toNat = 2 ^ 1 * (v.toNat % 128) := by
    rw [toNat_shiftLeft_one]
    omega
  rw [toNat_or_of_disjoint heven (hbit ▸ b.toNat_lt), toNat_shiftLeft_one, hbit]

/-- A shift to the right with `b` for the bit shifted in. -/
theorem toNat_shiftRight_or_bit (v : Byte) (b : Bool) :
    ((v >>> 1) ||| (if b then 0x80 else 0x00)).toNat = v.toNat / 2 + 128 * b.toNat := by
  have hbit : (if b then 0x80 else 0x00 : Byte).toNat = 128 * b.toNat := by cases b <;> rfl
  have hlow : (v >>> 1).toNat < 2 ^ 7 := by
    have := v.isLt
    rw [toNat_shiftRight_one]
    omega
  rw [BitVec.or_comm, toNat_or_of_disjoint (i := 7) hbit hlow, toNat_shiftRight_one, hbit, Nat.add_comm]

/-- The bit that SRA keeps. -/
theorem and_80_eq (v : Byte) : v &&& 0x80 = if v.getLsbD 7 then 0x80 else 0x00 := BitVec.and_twoPow v 7

theorem toNat_swapNibbles (v : Byte) :
    (((v &&& 0x0F) <<< 4) ||| (v >>> 4)).toNat = v.toNat % 16 * 16 + v.toNat / 16 := by
  have hv := v.isLt
  have hhigh : ((v &&& 0x0F) <<< 4).toNat = v.toNat % 16 * 16 := by
    rw [BitVec.toNat_shiftLeft, toNat_and_0F, Nat.shiftLeft_eq]
    omega
  have hlow : (v >>> 4).toNat = v.toNat / 16 :=
    (BitVec.toNat_ushiftRight v 4).trans (Nat.shiftRight_eq_div_pow v.toNat 4)
  rw [toNat_or_of_disjoint (i := 4) (hhigh.trans (Nat.mul_comm _ 16)) (by omega), hhigh, hlow]

/-- `shift8` is `Shift(k, v)`: the bit shifted out is bit 7 to the left and bit 0 to the right. -/
theorem shift8_shifts (k : ShiftOp) (v : Byte) (cy : Bool) : Shifts k v cy (shift8 k v cy).1 (shift8 k v cy).2 := by
  have h7 := toNat_getLsbD_seven v
  have h0 := toNat_getLsbD_zero v
  cases k with
  | rlc => exact ⟨h7, toNat_shiftLeft_or_bit v _⟩
  | rrc => exact ⟨h0, toNat_shiftRight_or_bit v _⟩
  | rl => exact ⟨h7, toNat_shiftLeft_or_bit v cy⟩
  | rr => exact ⟨h0, toNat_shiftRight_or_bit v cy⟩
  | sla => exact ⟨h7, toNat_shiftLeft_one v⟩
  | sra =>
    refine ⟨h0, ?_⟩
    rw [shift8, and_80_eq, toNat_shiftRight_or_bit, h7, Nat.mul_comm]
  | swap => exact ⟨rfl, toNat_swapNibbles v⟩
  | srl => exact ⟨h0, toNat_shiftRight_one v⟩

/-- The same with the carry flag read from F in plain arithmetic, as the statements write it. -/
theorem shift8_flagC_shifts (k : ShiftOp) (v f : Byte) :
    Shifts k v (bitC f) (shift8 k v (flagC f)).1 (shift8 k v (flagC f)).2 := by
  rw [← flagC_eq_bitC]
  exact shift8_shifts k v (flagC f)

theorem shiftFlags_flagsAre (r : Byte × Bool) :
    FlagsAre (shiftFlags r) (decide (r.1.toNat = 0)) false false r.2 0 := flagsAre_mkFlags_zf r.1 false false r.2

end Sys2Proof.Machine
end

section
/-! PROOFS. The statements of 45_rotate_shift.md, settled. -/

open Sys2Proof Sys2Proof.Machine Sys2Proof.Spec

/-- Settles O42: A becomes the result of `shift8`, and F its carry-out alone. -/
theorem accumulatorRotatesClearZ : Obligations.AccumulatorRotatesClearZ := by
  unfold Obligations.AccumulatorRotatesClearZ
  exact fun s nxt k op rest hop => ⟨decode_ofRotateA k rest, fun hn => ⟨_, _, _, shift8_flagC_shifts op s.a s.f,
    flagsAre_mkFlags false false false _, (exec_ofRotateA hop s).trans (State.retire_ok hn _)⟩⟩

/-- Settles O43: the register becomes the result of `shift8`, and F its flags. -/
theorem shiftRegisterResultAndFlags : Obligations.ShiftRegisterResultAndFlags := by
  unfold Obligations.ShiftRegisterResultAndFlags
  refine fun s nxt k r rest => ⟨decode_ofShiftReg k r rest, fun hn => ⟨_, _, _, shift8_flagC_shifts k (s.r8 r) s.f,
    shiftFlags_flagsAre _, ?answer⟩⟩
  case answer =>
    rw [State.setR8_setF, exec_ofShiftReg]
    exact State.retire_ok hn _

/-- Settles O44: the result of `shift8` on the byte at HL is stored there, and then its flags are written. -/
theorem shiftMemoryResultAndFlags : Obligations.ShiftMemoryResultAndFlags := by
  unfold Obligations.ShiftMemoryResultAndFlags
  exact fun s k rest => ⟨decode_ofShiftMemHl k rest, _, _, _, shift8_flagC_shifts k (s.readByte s.hl) s.f,
    shiftFlags_flagsAre _, storeAnswer_of_exec_bind (exec_ofShiftMemHl k s)⟩

end

section
/-! PROOFS. Bit test, reset and set: the bytes that select them, the flags of BIT, and one bit of a byte cleared or set as a
number (46_bit.md). -/

namespace Sys2Proof.Machine

open Sys2Proof.Spec

/-! Decoding. -/

theorem decode_ofBitReg (b : Fin 8) (r : R8) (rest : List Byte) :
    decode (0xCB :: byte (0x40 + 8 * b.val + r.code) :: rest) = .ok (.ofBitReg b r, rest) := by
  fin_cases b <;> cases r <;> rfl

theorem decode_ofBitMemHl (b : Fin 8) (rest : List Byte) :
    decode (0xCB :: byte (0x46 + 8 * b.val) :: rest) = .ok (.ofBitMemHl b, rest) := by
  fin_cases b <;> rfl

theorem decode_ofResReg (b : Fin 8) (r : R8) (rest : List Byte) :
    decode (0xCB :: byte (0x80 + 8 * b.val + r.code) :: rest) = .ok (.ofResReg b r, rest) := by
  fin_cases b <;> cases r <;> rfl

theorem decode_ofSetReg (b : Fin 8) (r : R8) (rest : List Byte) :
    decode (0xCB :: byte (0xC0 + 8 * b.val + r.code) :: rest) = .ok (.ofSetReg b r, rest) := by
  fin_cases b <;> cases r <;> rfl

theorem decode_ofResMemHl (b : Fin 8) (rest : List Byte) :
    decode (0xCB :: byte (0x86 + 8 * b.val) :: rest) = .ok (.ofResMemHl b, rest) := by
  fin_cases b <;> rfl

theorem decode_ofSetMemHl (b : Fin 8) (rest : List Byte) :
    decode (0xCB :: byte (0xC6 + 8 * b.val) :: rest) = .ok (.ofSetMemHl b, rest) := by
  fin_cases b <;> rfl

/-! The flags of BIT (R300). -/

/-- Z is the complement of the bit tested. -/
theorem bitFlags_flagsAre (v : Byte) (b : Fin 8) (f : Byte) :
    FlagsAre (bitFlags v b f) (decide (v.toNat / 2 ^ b.val % 2 = 0)) false true (bitC f) (lowNibble f) := by
  have hbit : v.getLsbD b = decide (v.toNat / 2 ^ b.val % 2 = 1) := Nat.testBit_eq_decide_div_mod_eq
  have hclear : (!v.getLsbD b) = decide (v.toNat / 2 ^ b.val % 2 = 0) := by
    rw [hbit, ← decide_not, decide_eq_decide, Nat.mod_two_not_eq_one]
  rw [← hclear]
  exact flagsAre_setHNZ f _ false true

/-! One bit of a byte (R302, R304). -/

theorem toNat_or_of_and_eq_zero {x y : Byte} (h : x &&& y = 0) : (x ||| y).toNat = x.toNat + y.toNat := by
  rw [← BitVec.add_eq_or_of_and_eq_zero x y h, BitVec.toNat_add_of_and_eq_zero h]

theorem and_not_and_self (v m : Byte) : v &&& ~~~m &&& m = 0 := by
  rw [BitVec.and_assoc, BitVec.not_and_self]
  exact BitVec.and_zero

/-- A byte is the sum of its bits outside a mask and its bits in the mask. -/
theorem toNat_and_not_add_toNat_and (v m : Byte) : (v &&& ~~~m).toNat + (v &&& m).toNat = v.toNat := by
  have hdisjoint : v &&& ~~~m &&& (v &&& m) = 0 := by
    rw [BitVec.and_comm v m, ← BitVec.and_assoc, and_not_and_self]
    exact BitVec.zero_and
  rw [← toNat_or_of_and_eq_zero hdisjoint, ← BitVec.and_or_distrib_left, BitVec.not_or_self, BitVec.and_allOnes]

/-- A byte with the bits of a mask set is the sum of its bits outside the mask and the mask. -/
theorem toNat_or_eq_and_not_add (v m : Byte) : (v ||| m).toNat = (v &&& ~~~m).toNat + m.toNat := by
  have hjoined : v &&& ~~~m ||| m = v ||| m := by
    ext i hi
    cases hm : m[i] <;> simp [hm]
  rw [← toNat_or_of_and_eq_zero (and_not_and_self v m), hjoined]

theorem toNat_one_shiftLeft {b : Nat} (hb : b < 8) : ((1 : Byte) <<< b).toNat = 2 ^ b := by
  have htwoPow : (1 : Byte) <<< b = BitVec.twoPow 8 b := (BitVec.twoPow_eq 8 b).symm
  rw [htwoPow, BitVec.toNat_twoPow_of_lt hb]

theorem toNat_and_one_shiftLeft (v : Byte) {b : Nat} (hb : b < 8) :
    (v &&& ((1 : Byte) <<< b)).toNat = 2 ^ b * (v.toNat / 2 ^ b % 2) := by
  rw [BitVec.toNat_and, toNat_one_shiftLeft hb, Nat.and_two_pow, Nat.toNat_testBit, Nat.mul_comm]

theorem toNat_and_xor_one_shiftLeft (v : Byte) {b : Nat} (hb : b < 8) :
    (v &&& (0xFF ^^^ ((1 : Byte) <<< b))).toNat = without v b := by
  have hnot : 0xFF ^^^ ((1 : Byte) <<< b) = ~~~((1 : Byte) <<< b) := BitVec.allOnes_xor
  rw [hnot, without, ← toNat_and_one_shiftLeft v hb]
  exact Nat.eq_sub_of_add_eq (toNat_and_not_add_toNat_and v _)

theorem clearBit_toNat (v : Byte) (b : Fin 8) : (clearBit v b).toNat = without v b.val :=
  toNat_and_xor_one_shiftLeft v b.isLt

theorem raiseBit_toNat (v : Byte) (b : Fin 8) : (raiseBit v b).toNat = with1 v b.val := by
  have hsum := toNat_and_not_add_toNat_and v ((1 : Byte) <<< b.val)
  rw [toNat_and_one_shiftLeft v b.isLt] at hsum
  rw [raiseBit, toNat_or_eq_and_not_add, toNat_one_shiftLeft b.isLt, with1]
  rcases Nat.mod_two_eq_zero_or_one (v.toNat / 2 ^ b.val) with hbit | hbit <;> rw [hbit] at hsum ⊢ <;> omega

end Sys2Proof.Machine
end

section
/-! PROOFS. The statements of 46_bit.md, settled. -/

open Sys2Proof Sys2Proof.Machine Sys2Proof.Spec

/-- Settles O45: both handlers write `bitFlags` of the byte they test to F, and nothing else. -/
theorem bitTestWritesFlagsOnly : Obligations.BitTestWritesFlagsOnly := by
  unfold Obligations.BitTestWritesFlagsOnly
  exact fun s nxt b r rest => ⟨decode_ofBitReg b r rest, decode_ofBitMemHl b rest,
    fun hn => ⟨_, bitFlags_flagsAre (s.r8 r) b s.f, (exec_ofBitReg b r s).trans (State.retire_ok hn _)⟩,
    fun hn => ⟨_, bitFlags_flagsAre (s.readByte s.hl) b s.f, (exec_ofBitMemHl b s).trans (State.retire_ok hn _)⟩⟩

/-- Settles O46: each handler writes its register alone, as `clearBit` or `raiseBit` of it. -/
theorem resSetRegisterOneBit : Obligations.ResSetRegisterOneBit := by
  unfold Obligations.ResSetRegisterOneBit
  exact fun s nxt b r rest => ⟨decode_ofResReg b r rest, decode_ofSetReg b r rest,
    fun hn => ⟨_, clearBit_toNat (s.r8 r) b, (exec_ofResReg b r s).trans (State.retire_ok hn _)⟩,
    fun hn => ⟨_, raiseBit_toNat (s.r8 r) b, (exec_ofSetReg b r s).trans (State.retire_ok hn _)⟩⟩

/-- Settles O47: each handler is a one-byte store at HL of `clearBit` or `raiseBit` of the byte there, and nothing else. -/
theorem resSetMemoryOneBit : Obligations.ResSetMemoryOneBit := by
  unfold Obligations.ResSetMemoryOneBit
  exact fun s b rest => ⟨decode_ofResMemHl b rest, decode_ofSetMemHl b rest,
    ⟨_, clearBit_toNat (s.readByte s.hl) b, storeAnswer_of_exec (exec_ofResMemHl b s)⟩,
    ⟨_, raiseBit_toNat (s.readByte s.hl) b, storeAnswer_of_exec (exec_ofSetMemHl b s)⟩⟩

end

section
/-! PROOFS. Control flow: the bytes that select the forms chosen by a condition, their handlers taken and not taken, and the
target of JR, the push of a call and the pop of a return at the end of an instruction (47_control.md). -/

namespace Sys2Proof.Machine

open Sys2Proof.Spec

variable {s : State} {w : Word} {k : Cond}

/-! The forms chosen by a condition or a restart's number. -/

theorem decode_ofJpCond (k : Cond) (nn : Word) (rest : List Byte) :
    decode (byte (0xC2 + 8 * k.code) :: byte (nn.toNat % 256) :: byte (nn.toNat / 256) :: rest)
      = .ok (.ofJpCond k nn, rest) := by
  cases k <;> exact decode_imm16_byte (f := Instr.ofJpCond _) rfl nn rest

theorem decode_ofJrCond (k : Cond) (e : Byte) (rest : List Byte) :
    decode (byte (0x20 + 8 * k.code) :: e :: rest) = .ok (.ofJrCond k e, rest) := by
  cases k <;> rfl

theorem decode_ofCallCond (k : Cond) (nn : Word) (rest : List Byte) :
    decode (byte (0xC4 + 8 * k.code) :: byte (nn.toNat % 256) :: byte (nn.toNat / 256) :: rest)
      = .ok (.ofCallCond k nn, rest) := by
  cases k <;> exact decode_imm16_byte (f := Instr.ofCallCond _) rfl nn rest

theorem decode_ofRetCond (k : Cond) (rest : List Byte) :
    decode (byte (0xC0 + 8 * k.code) :: rest) = .ok (.ofRetCond k, rest) := by
  cases k <;> rfl

theorem decode_ofRestart (t : Fin 8) (rest : List Byte) :
    decode (byte (0xC7 + 8 * t.val) :: rest) = .ok (.ofRestart t, rest) := by
  fin_cases t <;> rfl

/-! The conditional forms, taken: each is its unconditional form. -/

theorem State.ite_cond_of_holds {α : Type} (h : Holds k s.f) (x y : α) : (if s.cond k then x else y) = x :=
  if_pos ((s.cond_iff k).2 h)

theorem exec_ofJpCond_of_holds (h : Holds k s.f) (nn : Word) : exec (.ofJpCond k nn) s = exec (.jpNn nn) s := by
  rw [exec_ofJpCond, jpCond, State.ite_cond_of_holds h]
  rfl

theorem exec_ofJrCond_of_holds (h : Holds k s.f) (e : Byte) : exec (.ofJrCond k e) s = exec (.jrE e) s := by
  rw [exec_ofJrCond, jrCond, State.ite_cond_of_holds h]
  rfl

theorem exec_ofCallCond_of_holds (h : Holds k s.f) (nn : Word) : exec (.ofCallCond k nn) s = exec (.callNn nn) s := by
  rw [exec_ofCallCond, callCond, State.ite_cond_of_holds h]
  rfl

theorem exec_ofRetCond_of_holds (h : Holds k s.f) : exec (.ofRetCond k) s = exec .ret s := by
  rw [exec_ofRetCond, retCond, State.ite_cond_of_holds h]
  rfl

/-! The conditional forms, not taken: each is `skip` over its own length. -/

theorem State.skip_ok {len : Nat} (hn : s.Next len w) : s.skip len = .ok { s with pc := w } := by
  rw [State.skip, State.addrAdd_next hn]
  rfl

/-- The not-taken branch of a conditional instruction, whatever its taken one does. -/
theorem State.complete_ite_of_not_holds {len : Nat} (h : ¬Holds k s.f) (hn : s.Next len w) (x : Except Fault State) :
    s.complete (if s.cond k then x else s.skip len) = .next { s with pc := w } := by
  rw [if_neg (mt (s.cond_iff k).1 h), State.skip_ok hn]
  rfl

/-! JR (R314). -/

theorem sint8_eq_sint (e : Byte) : Bits.sint8 e = sint e := by
  rw [Bits.sint8, BitVec.toInt_eq_toNat_cond, sint]
  exact if_congr (by omega) rfl rfl

/-- The displacement is relative to `next`. -/
theorem State.jumpRelative_next (hn : s.Next 2 w) (e : Byte) :
    s.jumpRelative e = s.addr16 (w.toNat + sint e) >>= fun target => .ok { s with pc := target } := by
  have hnext : s.addrAdd s.pc 2 = .ok w := State.addr16_ok hn
  rw [State.jumpRelative, hnext, sint8_eq_sint]
  rfl

theorem exec_jrE_ok {target : Word} {e : Byte} (hn : s.Next 2 w) (ht : s.Addr (w.toNat + sint e) target) :
    exec (.jrE e) s = .next { s with pc := target } := by
  have hjump : s.jumpRelative e = .ok { s with pc := target } := by
    rw [State.jumpRelative_next hn, State.addr16_ok ht]
    rfl
  exact congrArg s.complete hjump

theorem exec_jrE_raises {e : Byte} (hn : s.Next 2 w) (hout : s.OutOfRange (w.toNat + sint e)) :
    Raises s (exec (.jrE e) s) (.addressRange (w.toNat + sint e)) := by
  refine State.raises_complete (r := s.jumpRelative e) ?_
  rw [State.jumpRelative_next hn, State.addr16_error hout]
  rfl

/-! Calls and returns (R316, R318, R320, R321). -/

/-- A call is a push of `next` and then the jump. -/
theorem pushAnswer_call {len : Nat} (hn : s.Next len w) (target : Word) :
    PushAnswer s w (s.complete (s.call len target)) fun t => { t with pc := target } := by
  rw [State.call, State.addrAdd_next hn]
  exact pushAnswer_complete s w fun t => { t with pc := target }

theorem popAnswer_ret (s : State) : PopAnswer s (exec .ret s) fun v t => { t with pc := v } :=
  popAnswer_complete s fun v t => { t with pc := v }

/-- RETI enables interrupts after the pop. -/
theorem popAnswer_reti (s : State) :
    PopAnswer s (exec .reti s) fun v t => { t with pc := v, ime := true, eiPending := false } := by
  have hexec : exec .reti s = s.complete (s.returnFrom >>= fun t => .ok t.enableInterrupts) := rfl
  rw [hexec, State.returnFrom, bind_assoc]
  exact popAnswer_complete s fun v t => { t with pc := v, ime := true, eiPending := false }

end Sys2Proof.Machine
end

section
/-! PROOFS. The statements of 47_control.md, settled. -/

open Sys2Proof Sys2Proof.Machine Sys2Proof.Spec

/-- Settles O48: a taken JP cc,nn is JP nn, one not taken skips its three bytes. -/
theorem absoluteJumpsSetPc : Obligations.AbsoluteJumpsSetPc := by
  unfold Obligations.AbsoluteJumpsSetPc
  refine fun s nxt nn k rest => ⟨decode_imm16_byte rfl nn rest, decode_ofJpCond k nn rest, rfl, rfl,
    fun hk => exec_ofJpCond_of_holds hk nn, fun hk hn => ?skips, rfl⟩
  case skips =>
    rw [exec_ofJpCond]
    exact State.complete_ite_of_not_holds hk hn _

/-- Settles O49: JR computes its target from `next`; a taken JR cc,e is JR e, one not taken skips its two bytes. -/
theorem relativeJumpsFromNext : Obligations.RelativeJumpsFromNext := by
  unfold Obligations.RelativeJumpsFromNext
  refine fun s nxt k e rest => ⟨rfl, decode_ofJrCond k e rest, fun hn => ⟨fun target => exec_jrE_ok hn, exec_jrE_raises hn,
    fun hk => ?taken, fun hk => ?skips⟩⟩
  case taken =>
    rw [exec_ofJrCond_of_holds hk]
    exact ⟨fun target => exec_jrE_ok hn, exec_jrE_raises hn⟩
  case skips =>
    rw [exec_ofJrCond]
    exact State.complete_ite_of_not_holds hk hn _

/-- Settles O50: CALL nn and RST t are `call`; a taken CALL cc,nn is CALL nn, one not taken skips its three bytes. -/
theorem callsPushNext : Obligations.CallsPushNext := by
  unfold Obligations.CallsPushNext
  refine fun s nxt nn k t rest => ⟨decode_imm16_byte rfl nn rest, decode_ofCallCond k nn rest, decode_ofRestart t rest,
    fun hn => pushAnswer_call hn nn, fun hn hk => ?taken, fun hn hk => ?skips, fun hn => ?restarts⟩
  case taken =>
    rw [exec_ofCallCond_of_holds hk]
    exact pushAnswer_call hn nn
  case skips =>
    rw [exec_ofCallCond]
    exact State.complete_ite_of_not_holds hk hn _
  case restarts =>
    rw [exec_ofRestart]
    exact pushAnswer_call hn _

/-- Settles O51: RET and RETI are a pop into PC; a taken RET cc is RET, one not taken skips its one byte. -/
theorem returnsPopPc : Obligations.ReturnsPopPc := by
  unfold Obligations.ReturnsPopPc
  refine fun s nxt k rest => ⟨rfl, decode_ofRetCond k rest, rfl, popAnswer_ret s, fun hk => ?taken, fun hk hn => ?skips,
    popAnswer_reti s⟩
  case taken =>
    rw [exec_ofRetCond_of_holds hk]
    exact popAnswer_ret s
  case skips =>
    rw [exec_ofRetCond]
    exact State.complete_ite_of_not_holds hk hn _

end

section
/-! PROOFS. Faults of a step: the state that records one is the state before the step with that fault alone, whatever the hook
(60_exceptions.md R347), and a fetch past the address space (R348). -/

namespace Sys2Proof.Machine

open Sys2Proof.Spec

variable {s t : State} {f : Fault} {hook : Nat → State → State}

/-! A phase that raises nothing records nothing. -/

theorem serviceSource_unfaulted (h : s.fault = none) (active : Byte) (n : Nat) :
    Yields State.Safe (serviceSource hook active s n) := by
  refine .ite (.bind fun u _ => ?_) (.ok h)
  split
  · exact .ok ‹_›
  · exact .error _ _

theorem foldlM_serviceSource_unfaulted (h : s.fault = none) (active : Byte) (sources : List Nat) :
    Yields State.Safe (sources.foldlM (serviceSource hook active) s) := by
  induction sources generalizing s with
  | nil => exact .ok h
  | cons n sources ih =>
    rw [List.foldlM_cons]
    exact .bind fun t ht => ih (serviceSource_unfaulted h active n t ht)

theorem icPhase_unfaulted (h : s.fault = none) : Yields State.Safe (icPhase hook s) :=
  .ite (foldlM_serviceSource_unfaulted h _ _) (.ok h)

theorem State.finishPhases_unfaulted (h : s.fault = none) (wasPending : Bool) :
    Yields State.Safe (s.finishPhases hook wasPending) :=
  .bind fun t ht => .ok (ppuPhase_fault.trans (icPhase_unfaulted ((State.commitEi_fault wasPending).trans h) t ht))

/-! A fault recorded by a step is the only change. -/

theorem State.complete_precise {r : Except Fault State} (hr : Yields State.Safe r)
    (h : s.complete r = .next t) (ht : t.fault = some f) : t = s.takeFault f := by
  cases r with
  | ok u =>
    cases h
    exact nomatch (hr t rfl).symm.trans ht
  | error g =>
    cases h
    cases ht
    rfl

theorem State.afterInstr_precise {r : Out} (h : s.afterInstr hook r = .next t) (ht : t.fault = some f) :
    t = s.takeFault f := by
  cases r with
  | next u =>
    cases hu : u.fault with
    | none =>
      rw [State.afterInstr_next hook hu] at h
      exact State.complete_precise (State.finishPhases_unfaulted hu _) h ht
    | some g =>
      rw [State.afterInstr_fault hook hu] at h
      cases h
      cases ht
      rfl
  | fault g => cases h
  | refused x => cases h

theorem stepWith_of_fault (h : s.fault = some f) : stepWith hook s = .fault f := by rw [stepWith, h]

theorem hostReset_of_fault (h : s.fault = some f) : hostReset s = .fault f := by rw [hostReset, h]

/-- The fault is that of the halted branch's later phases, of the fetch, or of the instruction and what follows it. -/
theorem stepWith_precise (h : stepWith hook s = .next t) (ht : t.fault = some f) : s.fault = none ∧ t = s.takeFault f := by
  cases hs : s.fault with
  | some g => exact nomatch (stepWith_of_fault hs).symm.trans h
  | none =>
    refine ⟨rfl, ?_⟩
    rw [stepWith, hs] at h
    dsimp only at h
    split at h
    · exact State.afterInstr_precise h ht
    · split at h
      · exact State.afterInstr_precise h ht
      · cases h
        cases ht
        rfl

/-! A fetch past the address space. -/

theorem State.fetch_outOfRange (h : s.OutOfRange (s.pc.toNat + 1)) : s.fetch = .error (.addressRange (s.pc.toNat + 1)) := by
  simp [State.fetch, State.advancePc_error h, bind, Except.bind]

/-- The second operand byte of a three-byte instruction in IMPLEMENTED. -/
theorem State.fetch_operand_outOfRange {w : Word} (hw : s.Next 1 w) (h : s.OutOfRange (s.pc.toNat + 2))
    (hlen : s.readByte s.pc ∈ threeByteOpcodes) (himp : s.readByte s.pc ∉ s.cfg.unimplemented) :
    s.fetch = .error (.addressRange (s.pc.toNat + 2)) := by
  have hcount : operandCount (s.readByte s.pc) = 2 := by
    have hall : ∀ op ∈ threeByteOpcodes, operandCount op = 2 := by decide
    exact hall _ hlen
  have hop : s.unimplementedOp (s.readByte s.pc) = false :=
    Bool.eq_false_iff.2 fun hu => himp (State.unimplementedOp_iff.1 hu).2
  have ha1 : s.addrAdd s.pc 1 = .ok w := State.addrAdd_next hw
  have ha2 : s.addrAdd s.pc 2 = .error (.addressRange (s.pc.toNat + 2)) := State.addr16_error h
  simp [State.fetch, State.advancePc_ok hw, hop, hcount, State.operandBytes, ha1, ha2, bind, Except.bind]

end Sys2Proof.Machine
end

section
/-! PROOFS. The interrupt controller: one turn of its loop, the loop, and what the loop comes to with the identity hook
(60_exceptions.md R352, R355). -/

namespace Sys2Proof.Machine

open Sys2Proof.Spec

variable {s t u : State} {act v w : Byte} {a : Word} {n : Nat} {ns : List Nat}

/-! One turn. -/

theorem byte_without (v : Byte) (hn : n < 8) : byte (without v n) = v &&& (0xFF ^^^ ((1 : Byte) <<< n)) := by
  rw [← toNat_and_xor_one_shiftLeft v hn, byte, BitVec.ofNat_toNat, BitVec.setWidth_eq]

theorem State.clearPending_eq (s : State) (hn : n < 8) :
    s.clearPending n = s.writeByte s.cfg.params.ifAddr (byte (without (pendingByte s) n)) := by
  rw [byte_without _ hn]
  rfl

theorem serviceSource_inactive {hook : Nat → State → State} (h : act.toNat.testBit n = false) :
    serviceSource hook act s n = .ok s :=
  if_neg (Bool.eq_false_iff.1 h)

theorem serviceSource_serviced (hook : Nat → State → State) (act : Byte) (s : State) (hn : n < 8) :
    Serviced hook act n s (serviceSource hook act s n) := by
  refine ⟨serviceSource_inactive, fun f (h : act.getLsbD n = true) hf => ?storeFaults,
    fun (h : act.getLsbD n = true) hf => ?stores⟩
  case storeFaults =>
    rw [serviceSource, if_pos h, State.clearPending_eq s hn, State.writeByte_error hf]
    rfl
  case stores =>
    obtain ⟨u, hu, hstored⟩ := State.writeByte_ok hf
    refine ⟨u, hstored, fun hhook => ?_, fun f hhook => ?_⟩
    · simp [serviceSource, h, State.clearPending_eq s hn, hu, bind, Except.bind, hhook]
    · simp [serviceSource, h, State.clearPending_eq s hn, hu, bind, Except.bind, hhook]

/-! The loop. -/

theorem foldlM_serviceSource_servicedInTurn (hook : Nat → State → State) (act : Byte) (hns : ∀ n ∈ ns, n < 8) (s : State) :
    ServicedInTurn hook act ns s (ns.foldlM (serviceSource hook act) s) := by
  induction ns generalizing s with
  | nil => rfl
  | cons n ns ih =>
    obtain ⟨hn, hns⟩ := List.forall_mem_cons.1 hns
    refine ⟨_, serviceSource_serviced hook act s hn, fun t ht => ?_, fun f hf => ?_⟩
    · rw [List.foldlM_cons, ht]
      exact ih hns t
    · rw [List.foldlM_cons, hf]
      rfl

theorem icPhase_of_not_ime {hook : Nat → State → State} (h : s.ime = false) : icPhase hook s = .ok s :=
  if_neg (Bool.eq_false_iff.1 h)

theorem icPhase_of_ime {hook : Nat → State → State} (h : s.ime = true) :
    icPhase hook s = [0, 1, 2, 3, 4].foldlM (serviceSource hook (active s)) s :=
  if_pos h

/-! Two stores at one address. -/

theorem State.StoredByte.readByte_self (h : s.StoredByte t a v) (ha : ¬s.InRom a) : t.readByte a = v := by
  obtain ⟨_, _, hread⟩ := h
  exact (hread a).1 ⟨ha, ha, .inl rfl⟩

/-- In the ROM window the byte does not matter: nothing is stored. -/
theorem State.StoredByte.of_inRom (h : s.StoredByte t a v) (ha : s.InRom a) (w : Byte) : s.StoredByte t a w := by
  obtain ⟨honly, hsame, hread⟩ := h
  exact ⟨honly, hsame, fun x => ⟨fun hx => absurd ha hx.1, fun _ => congrArg (State.readByte · x) (hsame ha)⟩⟩

/-- The second store overwrites the first. -/
theorem State.StoredByte.trans (h : s.StoredByte u a v) (h' : u.StoredByte t a w) : s.StoredByte t a w := by
  have hcfg := h.cfg
  obtain ⟨honly, hsame, hread⟩ := h
  obtain ⟨honly', hsame', hread'⟩ := h'
  simp only [State.Shows, State.InRom, hcfg] at hsame' hread'
  refine ⟨by rw [honly', honly], fun ha => (hsame' ha).trans (hsame ha), fun x => ⟨(hread' x).1, fun hx => ?_⟩⟩
  exact ((hread' x).2 hx).trans ((hread x).2 hx)

/-- A byte computed from the one just stored, stored in its place. -/
theorem State.StoredByte.update {g : Byte → Byte} (h : s.StoredByte u a v) (h' : u.StoredByte t a (g (u.readByte a))) :
    s.StoredByte t a (g v) := by
  by_cases ha : s.InRom a
  · exact (h.trans h').of_inRom ha _
  · rw [h.readByte_self ha] at h'
    exact h.trans h'

/-! The identity hook. -/

/-- The byte `v` with the bit of every source of `sources` that is active cleared. -/
def withoutSources (act : Byte) (sources : List Nat) (v : Byte) : Byte :=
  sources.foldl (fun v n => if act.getLsbD n then byte (without v n) else v) v

theorem withoutSources_cons (act : Byte) (n : Nat) (ns : List Nat) (v : Byte) :
    withoutSources act (n :: ns) v = withoutSources act ns (if act.getLsbD n then byte (without v n) else v) := rfl

theorem withoutSources_inactive (h : ∀ n ∈ ns, act.getLsbD n = false) (v : Byte) : withoutSources act ns v = v := by
  induction ns with
  | nil => rfl
  | cons n ns ih =>
    obtain ⟨hn, hns⟩ := List.forall_mem_cons.1 h
    rw [withoutSources_cons, hn]
    exact ih hns

theorem getLsbD_byte_without (v : Byte) (hn : n < 8) (j : Nat) :
    (byte (without v n)).getLsbD j = if j = n then false else v.getLsbD j := by
  rw [byte_without v hn]
  exact getLsbD_setBit v false hn j

theorem getLsbD_withoutSources (hns : ∀ n ∈ ns, n < 8) (v : Byte) (j : Nat) :
    (withoutSources act ns v).getLsbD j = (v.getLsbD j && !(decide (j ∈ ns) && act.getLsbD j)) := by
  induction ns generalizing v with
  | nil => simp [withoutSources]
  | cons n ns ih =>
    obtain ⟨hn, hns⟩ := List.forall_mem_cons.1 hns
    rw [withoutSources_cons, ih hns]
    by_cases hact : act.getLsbD n = true
    · rw [if_pos hact, getLsbD_byte_without v hn]
      by_cases hj : j = n <;> simp [hj, hact]
    · rw [if_neg hact]
      by_cases hj : j = n <;> simp [hj, hact]

/-- Only the five sources of the controller can be active (60_exceptions.md R350). -/
theorem getLsbD_active_of_not_source {j : Nat} (h : j ∉ [0, 1, 2, 3, 4]) : (active s).getLsbD j = false := by
  have hmask : (0x1F : Byte).getLsbD j = decide (j < 5) := Nat.testBit_two_pow_sub_one 5 j
  have hj : ¬j < 5 := by
    simp only [List.mem_cons, List.not_mem_nil, or_false] at h
    omega
  rw [active, BitVec.getLsbD_and, hmask, decide_eq_false hj, Bool.and_false]

theorem withoutSources_active (s : State) (v : Byte) :
    withoutSources (active s) [0, 1, 2, 3, 4] v = v &&& (0xFF ^^^ active s) := by
  refine BitVec.eq_of_getLsbD_eq fun j hj => ?_
  have hones : (0xFF : Byte).getLsbD j = decide (j < 8) := BitVec.getLsbD_allOnes
  rw [getLsbD_withoutSources (by decide), BitVec.getLsbD_and, BitVec.getLsbD_xor, hones, decide_eq_true hj, Bool.true_xor]
  by_cases hsource : j ∈ [0, 1, 2, 3, 4]
  · rw [decide_eq_true hsource, Bool.true_and]
  · rw [getLsbD_active_of_not_source hsource, Bool.and_false]

theorem exists_source_of_active_ne_zero (h : active s ≠ 0) : ∃ n ∈ [0, 1, 2, 3, 4], (active s).getLsbD n = true := by
  by_contra hnone
  refine h (BitVec.eq_of_getLsbD_eq fun j _ => ?_)
  have hzero : (0 : Byte).getLsbD j = false := BitVec.getLsbD_zero
  rw [hzero]
  by_cases hsource : j ∈ [0, 1, 2, 3, 4]
  · exact Bool.eq_false_iff.2 fun hj => hnone ⟨j, hsource, hj⟩
  · exact getLsbD_active_of_not_source hsource

theorem foldlM_serviceSource_inactive {hook : Nat → State → State} (h : ∀ n ∈ ns, act.getLsbD n = false) :
    ns.foldlM (serviceSource hook act) s = .ok s := by
  induction ns with
  | nil => rfl
  | cons n ns ih =>
    obtain ⟨hn, hns⟩ := List.forall_mem_cons.1 h
    rw [List.foldlM_cons, serviceSource_inactive hn]
    exact ih hns

/-- A turn on an active source, where the store raises nothing. -/
theorem serviceSource_identity (hn : n < 8) (hf : s.fault = none) (hstore : ∀ v, s.storeFault s.cfg.params.ifAddr v = none)
    (hact : act.getLsbD n = true) :
    ∃ u, s.StoredByte u s.cfg.params.ifAddr (byte (without (pendingByte s) n)) ∧ serviceSource intHook act s n = .ok u := by
  obtain ⟨_, _, hserviced⟩ := serviceSource_serviced intHook act s hn
  obtain ⟨u, hu, hok, _⟩ := hserviced hact (hstore _)
  exact ⟨u, hu, hok (hu.fault.trans hf)⟩

/-- With some source active, the turns come to one store at IF_ADDR. -/
theorem foldlM_serviceSource_identity (hns : ∀ n ∈ ns, n < 8) (hf : s.fault = none)
    (hstore : ∀ v, s.storeFault s.cfg.params.ifAddr v = none) (hact : ∃ n ∈ ns, act.getLsbD n = true) :
    ∃ t, ns.foldlM (serviceSource intHook act) s = .ok t ∧
      s.StoredByte t s.cfg.params.ifAddr (withoutSources act ns (pendingByte s)) := by
  induction ns generalizing s with
  | nil =>
    obtain ⟨n, hn, _⟩ := hact
    cases hn
  | cons n ns ih =>
    obtain ⟨hn, hns⟩ := List.forall_mem_cons.1 hns
    rw [List.foldlM_cons, withoutSources_cons]
    cases hbit : act.getLsbD n with
    | false =>
      have hrest : ∃ m ∈ ns, act.getLsbD m = true := by simpa [hbit] using hact
      rw [serviceSource_inactive hbit]
      exact ih hns hf hstore hrest
    | true =>
      obtain ⟨u, hu, hok⟩ := serviceSource_identity hn hf hstore hbit
      rw [hok, if_pos rfl]
      by_cases hrest : ∃ m ∈ ns, act.getLsbD m = true
      · have hstore' : ∀ v, u.storeFault u.cfg.params.ifAddr v = none := fun v => by
          rw [State.storeFault_congr hu.cfg, hu.cfg]
          exact hstore v
        obtain ⟨t, ht, hstored⟩ := ih hns (hu.fault.trans hf) hstore' hrest
        rw [pendingByte, hu.cfg] at hstored
        exact ⟨t, ht, hu.update (g := withoutSources act ns) hstored⟩
      · have hinactive : ∀ m ∈ ns, act.getLsbD m = false := fun m hm => Bool.eq_false_iff.2 fun hb => hrest ⟨m, hm, hb⟩
        refine ⟨u, foldlM_serviceSource_inactive hinactive, ?_⟩
        rw [withoutSources_inactive hinactive]
        exact hu

end Sys2Proof.Machine
end

section
/-! PROOFS. The PPU: one transition in each mode, and its cycle from the reset state (60_exceptions.md R363 to R368). -/

namespace Sys2Proof.Machine

open Sys2Proof.Spec

variable {s t : State}

/-! One transition. -/

theorem ppuPhase_of_hblank (h : s.ppuMode = .hblank) : ppuPhase s = ppuHblank s := by simp only [ppuPhase, h]
theorem ppuPhase_of_vblank (h : s.ppuMode = .vblank) : ppuPhase s = ppuVblank s := by simp only [ppuPhase, h]
theorem ppuPhase_of_oamRead (h : s.ppuMode = .oamRead) : ppuPhase s = ppuOamRead s := by simp only [ppuPhase, h]
theorem ppuPhase_of_oamVramRead (h : s.ppuMode = .oamVramRead) : ppuPhase s = ppuOamVramRead s := by simp only [ppuPhase, h]

theorem ppuPhase_hblank (h : s.ppuMode = .hblank) :
    ppuPhase s = { s.pokeByte s.cfg.params.lyAddr (byte (s.ppuLy + 1)) with
      ppuLy := s.ppuLy + 1, ppuMode := if s.cfg.params.ppuVblankFirst ≤ s.ppuLy + 1 then .vblank else .hblank } := by
  rw [ppuPhase_of_hblank h, ← h]
  rfl

theorem ppuPhase_vblank_inner (h : s.ppuMode = .vblank) (hly : s.ppuLy + 1 ≠ s.cfg.params.ppuVblankLast + 1) :
    ppuPhase s = { s.pokeByte s.cfg.params.lyAddr (byte (s.ppuLy + 1)) with ppuLy := s.ppuLy + 1 } :=
  (ppuPhase_of_vblank h).trans (if_neg hly)

theorem ppuPhase_vblank_last (h : s.ppuMode = .vblank) (hly : s.ppuLy + 1 = s.cfg.params.ppuVblankLast + 1) :
    ppuPhase s = { s.pokeByte s.cfg.params.lyAddr 0x00 with ppuLy := 0, ppuMode := .oamRead, ppuSub := 0 } :=
  (ppuPhase_of_vblank h).trans (if_pos hly)

theorem ppuPhase_oamRead_inner (h : s.ppuMode = .oamRead) (hsub : s.ppuSub + 1 ≠ s.cfg.params.ppuOamSteps) :
    ppuPhase s = { s with ppuSub := s.ppuSub + 1 } :=
  (ppuPhase_of_oamRead h).trans (if_neg hsub)

theorem ppuPhase_oamRead_last (h : s.ppuMode = .oamRead) (hsub : s.ppuSub + 1 = s.cfg.params.ppuOamSteps) :
    ppuPhase s = { s with ppuSub := 0, ppuMode := .oamVramRead } :=
  (ppuPhase_of_oamRead h).trans (if_pos hsub)

theorem ppuPhase_oamVramRead_inner (h : s.ppuMode = .oamVramRead) (hsub : s.ppuSub + 1 ≠ s.cfg.params.ppuVramSteps) :
    ppuPhase s = { s with ppuSub := s.ppuSub + 1 } :=
  (ppuPhase_of_oamVramRead h).trans (if_neg hsub)

theorem ppuPhase_oamVramRead_last (h : s.ppuMode = .oamVramRead) (hsub : s.ppuSub + 1 = s.cfg.params.ppuVramSteps) :
    ppuPhase s = { s with ppuSub := 0, ppuMode := .hblank } :=
  (ppuPhase_of_oamVramRead h).trans (if_pos hsub)

/-- Outside the ROM window and the mirrored ranges a store shows at its own address alone, so a direct store is a `MemWrite`. -/
theorem State.PokedByte.storedByte {a : Word} {v : Byte} (h : s.PokedByte t a v) (hrom : ¬s.InRom a)
    (hecho : ¬s.cfg.params.Echoed a.toNat) : s.StoredByte t a v := by
  obtain ⟨honly, hread⟩ := h
  refine ⟨honly, fun ha => absurd ha hrom, fun x => ⟨fun hx => ?_, fun hx => ?_⟩⟩
  · obtain ⟨_, _, hxa | ⟨hlo, hhi, _⟩ | ⟨hlo, hhi, _⟩⟩ := hx
    · rw [hread, if_pos ⟨hxa, hrom⟩]
    · exact absurd (.inl ⟨hlo, hhi⟩) hecho
    · exact absurd (.inr ⟨hlo, hhi⟩) hecho
  · rw [hread, if_neg]
    rintro ⟨rfl, _⟩
    exact hx ⟨hrom, hrom, .inl rfl⟩

/-! The cycle at the default parameters. -/

/-- The mode, the scanline counter and the sub-counter, `m` phases into the cycle (60_exceptions.md R368). -/
def cyclePosition (m : Nat) : PpuMode × Nat × Nat :=
  if m < 144 then (.hblank, m, 0)
  else if m < 154 then (.vblank, m, 0)
  else if m < 354 then (.oamRead, 0, m - 154)
  else (.oamVramRead, 0, m - 354)

/-- What LY reads, `m` phases into the cycle. -/
def cycleLy (m : Nat) : Nat := if m ≤ 153 then m else 0

/-- The PPU stands `m` phases into the cycle, at the default parameters. -/
structure State.AtCycle (m : Nat) (s : State) : Prop where
  params : s.cfg.params = defaultParams
  position : (s.ppuMode, s.ppuLy, s.ppuSub) = cyclePosition m

section Cycle

variable {m : Nat}

theorem State.AtCycle.hblank (h : s.AtCycle m) (hm : m < 144) : s.ppuMode = .hblank ∧ s.ppuLy = m ∧ s.ppuSub = 0 := by
  simpa [cyclePosition, hm] using h.position

theorem State.AtCycle.vblank (h : s.AtCycle m) (hlo : 144 ≤ m) (hhi : m < 154) :
    s.ppuMode = .vblank ∧ s.ppuLy = m ∧ s.ppuSub = 0 := by
  simpa [cyclePosition, hlo.not_gt, hhi] using h.position

theorem State.AtCycle.oamRead (h : s.AtCycle m) (hlo : 154 ≤ m) (hhi : m < 354) :
    s.ppuMode = .oamRead ∧ s.ppuLy = 0 ∧ s.ppuSub = m - 154 := by
  simpa [cyclePosition, hlo.not_gt, hhi, show ¬m < 144 by omega] using h.position

theorem State.AtCycle.oamVramRead (h : s.AtCycle m) (hlo : 354 ≤ m) :
    s.ppuMode = .oamVramRead ∧ s.ppuLy = 0 ∧ s.ppuSub = m - 354 := by
  simpa [cyclePosition, hlo.not_gt, show ¬m < 144 by omega, show ¬m < 154 by omega] using h.position

theorem State.readByte_pokeLy (hp : s.cfg.params = defaultParams) (v : Byte) (x : Word) :
    (s.pokeByte s.cfg.params.lyAddr v).readByte x = if x = 0xFF44 then v else s.readByte x := by
  have haddr : s.cfg.params.lyAddr = 0xFF44 := by rw [hp]; rfl
  have hrom : ¬s.InRom 0xFF44 := by
    simp only [State.InRom, hp]
    decide
  rw [(State.pokeByte_poked _ _).2, haddr]
  exact if_congr (and_iff_left hrom) rfl rfl

/-- One phase of the cycle: the next position, and LY written in the first 154 phases. -/
structure State.Turns (m : Nat) (s t : State) : Prop where
  position : t.AtCycle ((m + 1) % 554)
  read : ∀ x, t.readByte x = if x = 0xFF44 ∧ m < 154 then byte (cycleLy (m + 1)) else s.readByte x

/-- From the 154th phase on, LY is not written. -/
theorem State.Turns.of_read_eq (h : t.AtCycle ((m + 1) % 554)) (hm : 154 ≤ m) (hread : ∀ x, t.readByte x = s.readByte x) :
    s.Turns m t :=
  ⟨h, fun x => (hread x).trans (if_neg fun hx => hm.not_gt hx.2).symm⟩

theorem ppuPhase_turns_hblank (h : s.AtCycle m) (hm : m < 144) : s.Turns m (ppuPhase s) := by
  obtain ⟨hmode, hly, hsub⟩ := h.hblank hm
  have hfirst : s.cfg.params.ppuVblankFirst = 144 := by rw [h.params]; rfl
  rw [ppuPhase_hblank hmode, hly, hfirst]
  refine ⟨⟨h.params, ?_⟩, fun x => (State.readByte_pokeLy h.params _ x).trans ?_⟩
  · rw [State.pokeByte_ppuSub, hsub, Nat.mod_eq_of_lt (by omega), cyclePosition]
    by_cases hlast : m + 1 < 144
    · rw [if_neg (by omega), if_pos hlast]
    · rw [if_pos (by omega), if_neg hlast, if_pos (by omega)]
  · rw [cycleLy, if_pos (by omega : m + 1 ≤ 153)]
    simp only [show m < 154 by omega, and_true]

theorem ppuPhase_turns_vblank (h : s.AtCycle m) (hlo : 144 ≤ m) (hhi : m < 154) : s.Turns m (ppuPhase s) := by
  obtain ⟨hmode, hly, hsub⟩ := h.vblank hlo hhi
  have hlast : s.cfg.params.ppuVblankLast = 153 := by rw [h.params]; rfl
  by_cases hm : m = 153
  · subst hm
    rw [ppuPhase_vblank_last hmode (by rw [hly, hlast])]
    exact ⟨⟨h.params, rfl⟩, fun x => (State.readByte_pokeLy h.params _ x).trans (by simp [cycleLy])⟩
  · rw [ppuPhase_vblank_inner hmode (by omega), hly]
    refine ⟨⟨h.params, ?_⟩, fun x => (State.readByte_pokeLy h.params _ x).trans ?_⟩
    · rw [State.pokeByte_ppuMode, State.pokeByte_ppuSub, hmode, hsub, Nat.mod_eq_of_lt (by omega), cyclePosition,
        if_neg (by omega), if_pos (by omega)]
    · rw [cycleLy, if_pos (by omega : m + 1 ≤ 153)]
      simp only [hhi, and_true]

theorem ppuPhase_turns_oamRead (h : s.AtCycle m) (hlo : 154 ≤ m) (hhi : m < 354) : s.Turns m (ppuPhase s) := by
  obtain ⟨hmode, hly, hsub⟩ := h.oamRead hlo hhi
  have hsteps : s.cfg.params.ppuOamSteps = 200 := by rw [h.params]; rfl
  by_cases hm : m = 353
  · subst hm
    rw [ppuPhase_oamRead_last hmode (by omega)]
    exact .of_read_eq ⟨h.params, by rw [hly]; rfl⟩ (by decide) fun _ => rfl
  · rw [ppuPhase_oamRead_inner hmode (by omega)]
    refine .of_read_eq ⟨h.params, ?_⟩ (by omega) fun _ => rfl
    rw [hmode, hly, hsub, Nat.mod_eq_of_lt (by omega), cyclePosition, if_neg (by omega), if_neg (by omega),
      if_pos (by omega), Nat.sub_add_comm hlo]

theorem ppuPhase_turns_oamVramRead (h : s.AtCycle m) (hlo : 354 ≤ m) (hhi : m < 554) : s.Turns m (ppuPhase s) := by
  obtain ⟨hmode, hly, hsub⟩ := h.oamVramRead hlo
  have hsteps : s.cfg.params.ppuVramSteps = 200 := by rw [h.params]; rfl
  by_cases hm : m = 553
  · subst hm
    rw [ppuPhase_oamVramRead_last hmode (by omega)]
    exact .of_read_eq ⟨h.params, by rw [hly]; rfl⟩ (by decide) fun _ => rfl
  · rw [ppuPhase_oamVramRead_inner hmode (by omega)]
    refine .of_read_eq ⟨h.params, ?_⟩ (by omega) fun _ => rfl
    rw [hmode, hly, hsub, Nat.mod_eq_of_lt (by omega), cyclePosition, if_neg (by omega), if_neg (by omega),
      if_neg (by omega), Nat.sub_add_comm hlo]

theorem ppuPhase_turns (h : s.AtCycle m) (hm : m < 554) : s.Turns m (ppuPhase s) := by
  by_cases h144 : m < 144
  · exact ppuPhase_turns_hblank h h144
  by_cases h154 : m < 154
  · exact ppuPhase_turns_vblank h (Nat.not_lt.1 h144) h154
  by_cases h354 : m < 354
  · exact ppuPhase_turns_oamRead h (Nat.not_lt.1 h154) h354
  · exact ppuPhase_turns_oamVramRead h (Nat.not_lt.1 h354) hm

end Cycle

theorem cycleLy_succ_mod {k : Nat} (h : 154 ≤ k % 554) : cycleLy ((k + 1) % 554) = cycleLy (k % 554) := by
  unfold cycleLy
  split <;> split <;> omega

/-- What `k` phases of the PPU from the start of the cycle leave. -/
structure State.Cycled (k : Nat) (s t : State) : Prop where
  position : t.AtCycle (k % 554)
  ly : 1 ≤ k → t.readByte 0xFF44 = byte (cycleLy (k % 554))
  others : ∀ x, x ≠ 0xFF44 → t.readByte x = s.readByte x

theorem State.Cycled.ppuPhase {k : Nat} (h : s.Cycled k t) : s.Cycled (k + 1) (ppuPhase t) := by
  obtain ⟨hposition, hread⟩ := ppuPhase_turns h.position (Nat.mod_lt k (by decide))
  refine ⟨by rwa [Nat.mod_add_mod] at hposition, fun _ => ?_, fun x hx => ?_⟩
  · rw [hread]
    by_cases hm : k % 554 < 154
    · rw [if_pos ⟨rfl, hm⟩, show (k + 1) % 554 = k % 554 + 1 by omega]
    · rw [if_neg fun hc => hm hc.2, h.ly (by omega), cycleLy_succ_mod (Nat.not_lt.1 hm)]
  · rw [hread, if_neg fun hc => hx hc.1, h.others x hx]

theorem ppuPhase_iterate_cycled (h : s.AtCycle 0) (k : Nat) : s.Cycled k (ppuPhase^[k] s) := by
  induction k with
  | zero => exact ⟨h, nofun, fun _ _ => rfl⟩
  | succ k ih =>
    rw [Function.iterate_succ_apply']
    exact ih.ppuPhase

end Sys2Proof.Machine
end

section
/-! PROOFS. The statements of 60_exceptions.md, settled. -/

open Sys2Proof Sys2Proof.Machine Sys2Proof.Spec

/-- Settles O16: a phase that raises nothing records nothing, so a recorded fault is the step's own `takeFault`. -/
theorem faultIsPrecise : Obligations.FaultIsPrecise := by
  unfold Obligations.FaultIsPrecise
  intro hook s t f hstep hf
  obtain ⟨hs, ht⟩ := stepWith_precise hstep hf
  exact ⟨hs, ht, stepWith_of_fault hf, hostReset_of_fault hf⟩

/-- Settles O52: the loop turn by turn. -/
theorem controllerServicesActiveAscending : Obligations.ControllerServicesActiveAscending := by
  unfold Obligations.ControllerServicesActiveAscending
  refine fun hook s => ⟨icPhase_of_not_ime, fun hime => ?_⟩
  rw [icPhase_of_ime hime]
  exact foldlM_serviceSource_servicedInTurn hook (active s) (by decide) s

/-- Settles O53: with no source active no turn does anything; otherwise each store at IF_ADDR overwrites the one before it, and
the last byte stored has the bits of every active source cleared. -/
theorem identityHookClearsActiveBits : Obligations.IdentityHookClearsActiveBits := by
  unfold Obligations.IdentityHookClearsActiveBits
  intro s hf hime hstore
  rw [icPhase_of_ime hime]
  by_cases hact : active s = 0
  · have hinactive : ∀ n ∈ [0, 1, 2, 3, 4], (active s).getLsbD n = false := fun n _ => by
      rw [hact]
      exact BitVec.getLsbD_zero
    exact ⟨s, foldlM_serviceSource_inactive hinactive, fun _ => rfl, fun h => absurd hact h⟩
  · obtain ⟨t, ht, hstored⟩ := foldlM_serviceSource_identity (by decide) hf hstore (exists_source_of_active_ne_zero hact)
    rw [withoutSources_active] at hstored
    exact ⟨t, ht, fun h => absurd h hact, fun _ => hstored⟩

/-- Settles O54: the transition of each mode; LY is written by a direct store. -/
theorem ppuTransitionsByMode : Obligations.PpuTransitionsByMode := by
  unfold Obligations.PpuTransitionsByMode
  exact fun s => ⟨fun h => ⟨_, State.pokeByte_poked _ _, ppuPhase_hblank h⟩,
    fun h hly => ⟨_, State.pokeByte_poked _ _, ppuPhase_vblank_inner h hly⟩,
    fun h hly => ⟨_, State.pokeByte_poked _ _, ppuPhase_vblank_last h hly⟩,
    ppuPhase_oamRead_inner, ppuPhase_oamRead_last, ppuPhase_oamVramRead_inner, ppuPhase_oamVramRead_last,
    fun m v hrom hecho h => h.storedByte hrom hecho⟩

/-- Settles O55: by induction on the number of phases, each taking the position `k % 554` to the next. -/
theorem ppuCycleOf554 : Obligations.PpuCycleOf554 := by
  unfold Obligations.PpuCycleOf554
  rintro s t k m hp hmode hly hsub rfl rfl
  have hstart : s.AtCycle 0 := ⟨hp, by rw [hmode, hly, hsub]; rfl⟩
  obtain ⟨hposition, hread, hothers⟩ := ppuPhase_iterate_cycled hstart k
  exact ⟨hposition.hblank, hposition.vblank, hposition.oamRead, hposition.oamVramRead, hread, hothers⟩

/-- Settles O15: the fetch ends at the first address out of range. -/
theorem addressRangeAtFetch : Obligations.AddressRangeAtFetch := by
  unfold Obligations.AddressRangeAtFetch
  exact fun s hf hh => ⟨fun h => step_raises_of_fetch hf hh (State.fetch_outOfRange h),
    fun w hw h hlen himp => step_raises_of_fetch hf hh (State.fetch_operand_outOfRange hw h hlen himp)⟩

end

section
/-! PROOFS. Reset: the values of R391 and R392 at the default parameters (70_reset_and_hazards.md). -/

namespace Sys2Proof.Machine

open Sys2Proof.Spec

/-- Where no address is listed twice, the last value listed for one is the first. -/
theorem lookup_reverse_of_nodup (entries : List (Nat × Byte)) (h : (entries.map Prod.fst).Nodup) (a : Nat) :
    entries.reverse.lookup a = entries.lookup a := by
  induction entries with
  | nil => rfl
  | cons entry entries ih =>
    obtain ⟨hnotin, hnodup⟩ := List.nodup_cons.1 h
    rw [List.reverse_cons, List.lookup_append, ih hnodup]
    by_cases ha : a = entry.1
    · have hnone : entries.lookup a = none :=
        List.lookup_eq_none_iff.2 fun p hp => bne_iff_ne.2 fun hap => hnotin (List.mem_map.2 ⟨p, hp, hap.symm.trans ha⟩)
      rw [hnone, Option.none_or, List.lookup_cons, List.lookup_cons, ha, beq_self_eq_true]
    · rw [List.lookup_cons, List.lookup_cons, beq_false_of_ne ha, List.lookup_nil, Option.or_none]

theorem defaultParams_ioDefaults_nodup : (defaultParams.ioDefaults.map Prod.fst).Nodup := by decide

theorem Params.defaults_eq : Params.defaults = defaultParams := rfl

theorem hasResetValues_of_resetTo {t : State} (h : ResetTo defaultParams t) : HasResetValues t := by
  obtain ⟨ha, hf, hb, hc, hd, he, hh, hl, hsp, hpc, hime, hei, hhalted, hmode, hly, hsub, hmem⟩ := h
  refine ⟨ha, hf, hb, hc, hd, he, hh, hl, hsp, hpc, hime, hei, hhalted, hmode, hly, hsub, fun x => (hmem x).trans ?_⟩
  rw [lookup_reverse_of_nodup _ defaultParams_ioDefaults_nodup]
  rfl

end Sys2Proof.Machine
end

section
/-! PROOFS. The statements of 70_reset_and_hazards.md, settled. -/

open Sys2Proof Sys2Proof.Machine Sys2Proof.Spec

/-- Settles O1: `powerOn` leaves the values of the parameters; the defaults list no address twice. The reset state is its own
reset. -/
theorem resetGivesResetValues : Obligations.ResetGivesResetValues := by
  unfold Obligations.ResetGivesResetValues
  refine ⟨fun s hf hl _ => ⟨_, hostReset_next hf hl, s.powerOn_resetTo, fun hp => ?defaults, rfl, rfl, rfl, rfl, hf⟩,
    fun s f => hostReset_of_fault, ?reset, rfl, Params.defaults_eq, rfl, rfl, rfl, rfl, rfl, rfl⟩
  case defaults => exact hasResetValues_of_resetTo (hp ▸ s.powerOn_resetTo)
  case reset =>
    have hreset : ResetTo Params.defaults State.reset := State.powerOn_resetTo State.reset
    exact hasResetValues_of_resetTo (Params.defaults_eq ▸ hreset)

end
